-- ==== Sys2Proof/Word.lean ====
section
/-! DEFINITION. The widths of the block's values (00_scope R6, R7) and the two logical levels. -/

namespace Sys2Proof

/-- A serial frame, a micro-operation's byte, a wire command (00_scope R6: the serial frame is 8 bits). -/
abbrev Byte := BitVec 8

/-- A pixel colour or a descriptor coordinate (00_scope R6: 16 bits). -/
abbrev Half := BitVec 16

/-- A host register (00_scope R6: 32 bits). -/
abbrev Word32 := BitVec 32

/-- A logical or physical level: "Logical levels are written HIGH and LOW (also 1 and 0)" (00_scope R8). -/
abbrev Level := Bool

/-- The level LOW (0). -/
abbrev LOW : Level := false

/-- The level HIGH (1). -/
abbrev HIGH : Level := true

end Sys2Proof
end

