-- ==== Sys2Proof/Syntax.lean ====
section
/-! DEFINITION. The names the spec gives: the instructions of the opcode table, the micro-operations, the trace
events, and what the host can do. Data only. -/

namespace Sys2Proof

/-- The instructions: one constructor per row of the opcode table. The first four are the host operations
(30_encoding R51), with the fields they use as 16-bit unsigned operands (R53); the bits an operation ignores are no
operands. The last five are the wire commands the block emits, each one byte sent with CS LOW and DC LOW
(30_encoding R62, R63); their parameter and pixel bytes are further bytes of the same frame, not operands. -/
inductive Instr where
  | init
  | setwin (x0 y0 x1 y1 : Half)
  | fill (x0 y0 x1 y1 color : Half)
  | fillscr (color : Half)
  | caset
  | raset
  | ramwr
  | slpout
  | dispon
  deriving DecidableEq, Repr

/-- A host descriptor: the three words OPW0, OPW1, OPW2 (30_encoding R50). -/
structure Descriptor where
  opw0 : Word32
  opw1 : Word32
  opw2 : Word32
  deriving DecidableEq, Repr, Inhabited

/-- What an instruction is written as: a descriptor in the host register space, or a command byte in the wire command
space (20_memory R30 (a), (b)). -/
inductive Code where
  | descriptor (d : Descriptor)
  | wire (b : Byte)
  deriving DecidableEq, Repr

/-- The four control lines: reset, select, data/command-select, backlight (10_state R25). -/
inductive Line where
  | rst
  | cs
  | dc
  | bl
  deriving DecidableEq, Repr

/-- The Panel State (10_state R12). Codes 5 to 7 are never held, so they are no constructors. -/
inductive PanelState where
  | unpowered
  | resetting
  | configuring
  | sleeping
  | active
  deriving DecidableEq, Repr

/-- The four micro-operations (30_encoding R60). -/
inductive MicroOp where
  /-- LINE(l, v), 40_transport R75 -/
  | line (l : Line) (v : Level)
  /-- BYTE(b), 40_transport R78 -/
  | byte (b : Byte)
  /-- DELAY(us), 40_transport R81 -/
  | delay (us : Nat)
  /-- STATE(s), 42_panel_init R89 -/
  | state (p : PanelState)
  deriving DecidableEq, Repr

/-- The phase of the sequencer inside the current micro-operation (10_state R23). -/
inductive SeqPhase where
  | idle
  | ready
  | waitPre
  | waitPost
  | delaying
  deriving DecidableEq, Repr

/-- Which of BYTE's two bounded waits (40_transport R76). -/
inductive WaitTag where
  | pre
  | post
  deriving DecidableEq, Repr

/-- The events of the pin trace (20_memory R44). -/
inductive Event where
  | line (l : Line) (v : Level)
  | byte (b : Byte) (cs dc : Level)
  | delay (us : Nat)
  | timeout (p : WaitTag)
  deriving DecidableEq, Repr

/-- The items of the panel view (20_memory R45 (b)). -/
inductive PanelItem where
  | cmd (b : Byte)
  | data (b : Byte)
  | reset
  | gap (us : Nat)
  deriving DecidableEq, Repr

/-- STATUS.LAST_CAUSE by name (60_exceptions R112). Codes 5 to 7 never occur, so they are no constructors. -/
inductive Cause where
  | none
  | illegal
  | ubi
  | overlap
  | timeout
  deriving DecidableEq, Repr

/-- The faults a submission can raise (60_exceptions R117). -/
inductive HostFault where
  | illegal
  | ubi
  | overlap
  deriving DecidableEq, Repr

/-- An entry of INIT_TABLE: opcode, parameters, post-delay in milliseconds (42_panel_init R90). -/
structure InitEntry where
  opcode : Byte
  params : List Byte
  postDelayMs : Nat
  deriving DecidableEq, Repr, Inhabited

/-- Pixel emission order of FILL (00_scope R5, 43_raster R105). -/
inductive Traversal where
  | rowMajor
  | columnMajor
  deriving DecidableEq, Repr

/-- What the outside does to the block, in program order (20_memory R32, R37, R49; 30_encoding R59; 70_reset R126).
An offset is relative to the start of the 16-byte register window; a size is in bytes. -/
inductive HostOp where
  /-- MemRead(BASE + off, size) -/
  | read (off : BitVec 4) (size : Nat)
  /-- MemWrite(BASE + off, size, v) -/
  | write (off : BitVec 4) (size : Nat) (v : Word32)
  /-- the pseudo-operation WAITIDLE: poll STATUS until BUSY = 0 -/
  | waitIdle
  /-- block reset asserted -/
  | reset
  deriving DecidableEq, Repr

/-- What takes a step (20_memory R37): the host, the sequencer or the shifter. -/
inductive Agent where
  | host
  | sequencer
  | shifter
  deriving DecidableEq, Repr, Inhabited

end Sys2Proof
end

