-- ==== Sys2Proof/Config.lean ====
section
/-! DEFINITION. The implementation parameters of 00_scope R5, and the free values: what the spec leaves open and no
proof can evaluate. -/

namespace Sys2Proof

/-- The configuration (00_scope R5), "fixed at block reset". Two parameters are held in a form that carries their own
constraint (log 14): DIV_MAX is a power of two, so its exponent is held, and UNLOCK_LEN leading entries of INIT_TABLE are
the unlock sub-sequence, so INIT_TABLE is held as those entries and the rest. DIV_MIN is the constant 2. -/
structure Config where
  /-- W, H -/
  width : Nat
  height : Nat
  /-- INV: global polarity inversion of RST, CS, DC, BL -/
  inv : Bool
  /-- F_SYS in Hz -/
  fSys : Nat
  /-- F_TARGET in Hz -/
  fTarget : Nat
  /-- DIV_MAX = 2 ^ divMaxExp -/
  divMaxExp : Nat
  /-- BUSY_WAIT_LIMIT -/
  busyWaitLimit : Nat
  /-- the first UNLOCK_LEN entries of INIT_TABLE (42_panel_init R93) -/
  unlockTable : List InitEntry
  /-- the entries of INIT_TABLE after them -/
  restTable : List InitEntry
  /-- OP_SLPOUT, OP_DISPON, OP_CASET, OP_RASET, OP_RAMWR -/
  opSlpout : Byte
  opDispon : Byte
  opCaset : Byte
  opRaset : Byte
  opRamwr : Byte
  /-- T_RST_PRE_MS, T_RST_LOW_MS, T_RST_POST_MS, T_SLPOUT_MS, T_DISPON_MS -/
  tRstPreMs : Nat
  tRstLowMs : Nat
  tRstPostMs : Nat
  tSlpoutMs : Nat
  tDisponMs : Nat
  /-- BL_LEVEL -/
  blLevel : Level
  /-- TRAVERSAL -/
  traversal : Traversal
  /-- BASE: where the platform puts the register window (20_memory R30) -/
  base : Nat
  deriving DecidableEq, Repr

/-- DIV_MIN (00_scope R5). -/
def Config.divMin : Nat := 2

/-- DIV_MAX (00_scope R5). -/
def Config.divMax (c : Config) : Nat := 2 ^ c.divMaxExp

/-- INIT_TABLE (00_scope R5, 42_panel_init R90). -/
def Config.initTable (c : Config) : List InitEntry := c.unlockTable ++ c.restTable

/-- UNLOCK_LEN (00_scope R5, 42_panel_init R93). -/
def Config.unlockLen (c : Config) : Nat := c.unlockTable.length

/-! ### The OPEN parameters of this hardware: constants no proof can evaluate (log 1) -/

/-- INV, OPEN. -/
opaque Config.openInv : Bool
/-- F_SYS - 1, OPEN (a positive integer). -/
opaque Config.openFSysPred : Nat
/-- F_TARGET - 1, OPEN (a positive integer). -/
opaque Config.openFTargetPred : Nat
/-- log2(DIV_MAX) - 1, OPEN (a power of two, at least DIV_MIN = 2). -/
opaque Config.openDivMaxExpPred : Nat
/-- BUSY_WAIT_LIMIT - 1, OPEN (a positive integer). -/
opaque Config.openBusyWaitLimitPred : Nat
/-- The unlock sub-sequence, OPEN (opaque vendor data). -/
opaque Config.openUnlockTable : List InitEntry
/-- The rest of INIT_TABLE, OPEN (opaque vendor data). -/
opaque Config.openRestTable : List InitEntry
/-- T_RST_PRE_MS, OPEN (a natural). -/
opaque Config.openRstPreMs : Nat
/-- BL_LEVEL, OPEN. -/
opaque Config.openBlLevel : Level
/-- BASE, OPEN (20_memory R30). -/
opaque Config.openBase : Nat

/-- This hardware: the values and defaults of 00_scope R5, the OPEN parameters left open. The five opcode defaults are
the spec's general-knowledge values. PRESUMED (log 2). -/
def Config.thisHardware : Config where
  width := 240
  height := 240
  inv := Config.openInv
  fSys := Config.openFSysPred + 1
  fTarget := Config.openFTargetPred + 1
  divMaxExp := Config.openDivMaxExpPred + 1
  busyWaitLimit := Config.openBusyWaitLimitPred + 1
  unlockTable := Config.openUnlockTable
  restTable := Config.openRestTable
  opSlpout := 0x11
  opDispon := 0x29
  opCaset := 0x2A
  opRaset := 0x2B
  opRamwr := 0x2C
  tRstPreMs := Config.openRstPreMs
  tRstLowMs := 10
  tRstPostMs := 120
  tSlpoutMs := 120
  tDisponMs := 20
  blLevel := Config.openBlLevel
  traversal := .rowMajor
  base := Config.openBase

/-! ### Free values, drawn at a counter of State (log 4, 6, 8, 9, 10, 20) -/

/-- Which agent moves where several could (20_memory R37: "in any order consistent with each agent's own order"). -/
opaque Config.nextAgent : Nat → Agent
/-- Whether a poll that finds SBUSY = 1 abandons the wait (40_transport R76: "Timeout is a draw"). -/
opaque Config.waitAbandoned : Nat → Bool
/-- MOSI outside a bit step (40_transport R71: "an unspecified level (a model draws it)"). -/
opaque Config.idleMosi : Nat → Level
/-- SR after block reset (70_reset R127: "unspecified; a draw"). -/
opaque Config.resetSr : Nat → Byte
/-- INIT_RST, INIT_CS, INIT_DC, the levels of L_RST, L_CS, L_DC after block reset (70_reset R127: "OPEN draws"). -/
opaque Config.initRst : Nat → Level
opaque Config.initCs : Nat → Level
opaque Config.initDc : Nat → Level

end Sys2Proof
end

