-- ==== Sys2Proof/WellFormed.lean ====
section
/-! DEFINITION. Well-formedness: of a configuration (00_scope R5, 70_reset R129), of an instruction, and of the
micro-operations the block builds. -/

namespace Sys2Proof

/-- "constraint 1 ≤ W ≤ 256", "constraint 1 ≤ H ≤ 256" (00_scope R5). -/
def Config.geometryValid (c : Config) : Bool :=
  decide (1 ≤ c.width) && decide (c.width ≤ 256) && decide (1 ≤ c.height) && decide (c.height ≤ 256)

/-- F_SYS and F_TARGET are positive integers (00_scope R5). -/
def Config.clockValid (c : Config) : Bool :=
  decide (1 ≤ c.fSys) && decide (1 ≤ c.fTarget)

/-- DIV_MAX is a power of two, at least DIV_MIN = 2 (00_scope R5): its exponent is at least 1. -/
def Config.dividerValid (c : Config) : Bool := decide (1 ≤ c.divMaxExp)

/-- BUSY_WAIT_LIMIT is a positive integer (00_scope R5). -/
def Config.limitValid (c : Config) : Bool := decide (1 ≤ c.busyWaitLimit)

/-- The lower bounds of the four delays (00_scope R5): 10, 120, 120, 20 milliseconds. -/
def Config.delaysValid (c : Config) : Bool :=
  decide (10 ≤ c.tRstLowMs) && decide (120 ≤ c.tRstPostMs) && decide (120 ≤ c.tSlpoutMs) && decide (20 ≤ c.tDisponMs)

/-- A valid configuration (70_reset R129). That every INIT_TABLE byte is in 0..255 and that UNLOCK_LEN is at most the
table's length hold by the types. -/
def Config.valid (c : Config) : Bool :=
  c.geometryValid && c.clockValid && c.dividerValid && c.limitValid && c.delaysValid

/-- The five wire opcodes are different bytes, so that a command byte names one wire command. The spec does not demand it
(00_scope R5); only statements about decoding a wire byte assume it. -/
def Config.wireOpsDistinct (c : Config) : Bool :=
  decide ([c.opCaset, c.opRaset, c.opRamwr, c.opSlpout, c.opDispon].Nodup)

/-- The instruction is one the host can submit (30_encoding R51). -/
def Instr.isHost : Instr → Bool
  | .init => true
  | .setwin _ _ _ _ => true
  | .fill _ _ _ _ _ => true
  | .fillscr _ => true
  | .caset => false
  | .raset => false
  | .ramwr => false
  | .slpout => false
  | .dispon => false

/-- A well-formed instruction under a configuration: a host operation at every value of its fields (30_encoding R51, R53:
"every 16-bit value is a valid colour", geometry never fails, 60_exceptions R113); a wire command where the five command
bytes can be told apart. -/
def Instr.wellFormed (c : Config) (i : Instr) : Bool := i.isHost || c.wireOpsDistinct

/-- What a micro-program of the block contains (40_transport R75, R81; 42_panel_init R89): "No micro-program the block
builds contains LINE(BL, _)", none contains DELAY(0), and none contains STATE(0). -/
def MicroOp.built : MicroOp → Bool
  | .line .bl _ => false
  | .line .rst _ => true
  | .line .cs _ => true
  | .line .dc _ => true
  | .byte _ => true
  | .delay us => decide (0 < us)
  | .state .unpowered => false
  | .state .resetting => true
  | .state .configuring => true
  | .state .sleeping => true
  | .state .active => true

end Sys2Proof
end

