-- ==== Sys2Proof/Decode.lean ====
section
/-! DEFINITION. The decoder of descriptors (30_encoding R50 to R54) and of wire command bytes (R62, R63), and after it the
encoder, from the same tables. -/

namespace Sys2Proof

/-! ### Descriptor fields (30_encoding R50, R53) -/

/-- OPC = OPW0[3:0] -/
def Descriptor.opc (d : Descriptor) : BitVec 4 := d.opw0.extractLsb' 0 4
/-- RSVD = OPW0[15:4] -/
def Descriptor.rsvd (d : Descriptor) : BitVec 12 := d.opw0.extractLsb' 4 12
/-- COLOR = OPW0[31:16] -/
def Descriptor.color (d : Descriptor) : Half := d.opw0.extractLsb' 16 16
/-- X0 = OPW1[15:0] -/
def Descriptor.x0 (d : Descriptor) : Half := d.opw1.extractLsb' 0 16
/-- Y0 = OPW1[31:16] -/
def Descriptor.y0 (d : Descriptor) : Half := d.opw1.extractLsb' 16 16
/-- X1 = OPW2[15:0] -/
def Descriptor.x1 (d : Descriptor) : Half := d.opw2.extractLsb' 0 16
/-- Y1 = OPW2[31:16] -/
def Descriptor.y1 (d : Descriptor) : Half := d.opw2.extractLsb' 16 16

/-- The instruction of a descriptor (30_encoding R51, R54): none where OPC is 0 or 5 to 15, or RSVD is not 0. Fields an
operation does not use are ignored. -/
def decodeDescriptor (d : Descriptor) : Option Instr :=
  if d.rsvd ≠ 0 then none
  else if d.opc = 0x1 then some .init
  else if d.opc = 0x2 then some (.setwin d.x0 d.y0 d.x1 d.y1)
  else if d.opc = 0x3 then some (.fill d.x0 d.y0 d.x1 d.y1 d.color)
  else if d.opc = 0x4 then some (.fillscr d.color)
  else none

/-- The wire command of a byte sent with CS LOW and DC LOW (30_encoding R63): none for every other byte, the init table's
opcodes among them, to which the block gives no meaning of its own (R64). -/
def decodeWire (c : Config) (b : Byte) : Option Instr :=
  if b = c.opCaset then some .caset
  else if b = c.opRaset then some .raset
  else if b = c.opRamwr then some .ramwr
  else if b = c.opSlpout then some .slpout
  else if b = c.opDispon then some .dispon
  else none

/-- The decoder: total on every descriptor and every command byte. -/
def decode (c : Config) : Code → Option Instr
  | .descriptor d => decodeDescriptor d
  | .wire b => decodeWire c b

/-- The code with the bits of w, numbered as the opcode table numbers them: a row of at most 8 bits is a wire command
byte, a longer one the three words of a descriptor, OPW0 in bits 31..0, OPW1 in 63..32, OPW2 in 95..64 (30_encoding R50:
"most significant word first (OPW2, OPW1, OPW0)"). DESIGN CHOICE (log 19). -/
def Code.ofTableWord (nbits w : Nat) : Code :=
  if nbits ≤ 8 then .wire (BitVec.ofNat 8 w)
  else .descriptor ⟨BitVec.ofNat 32 w, BitVec.ofNat 32 (w >>> 32), BitVec.ofNat 32 (w >>> 64)⟩

/-- The instruction the decoder reads from an instruction of the opcode table. -/
def decodeTableWord (nbits w : Nat) : Option Instr :=
  decode Config.thisHardware (Code.ofTableWord nbits w)

/-! ### The encoder -/

/-- OPW0 as the assembler writes it: {COLOR, 0x000, OPC} (30_encoding R58). -/
def packOpw0 (color : Half) (opc : BitVec 4) : Word32 := color ++ 0#12 ++ opc

/-- OPW1 as {Y0, X0}, OPW2 as {Y1, X1} (30_encoding R58). -/
def packPair (hi lo : Half) : Word32 := hi ++ lo

/-- The words of an instruction: a descriptor for a host operation, the bits it ignores written as 0; the command byte for a
wire command (30_encoding R50, R51, R58, R63). -/
def encode (c : Config) : Instr → Code
  | .init => .descriptor ⟨packOpw0 0 0x1, 0, 0⟩
  | .setwin x0 y0 x1 y1 => .descriptor ⟨packOpw0 0 0x2, packPair y0 x0, packPair y1 x1⟩
  | .fill x0 y0 x1 y1 color => .descriptor ⟨packOpw0 color 0x3, packPair y0 x0, packPair y1 x1⟩
  | .fillscr color => .descriptor ⟨packOpw0 color 0x4, 0, 0⟩
  | .caset => .wire c.opCaset
  | .raset => .wire c.opRaset
  | .ramwr => .wire c.opRamwr
  | .slpout => .wire c.opSlpout
  | .dispon => .wire c.opDispon

/-- Byte lane k of a host word holds bits [8k+7:8k] (20_memory R33). -/
def byteLane (v : Word32) (k : Nat) : Byte := v.extractLsb' (8 * k) 8

/-- The 96 bits of a descriptor, most significant word first (30_encoding R50). -/
def Descriptor.bits (d : Descriptor) : BitVec 96 := d.opw2 ++ d.opw1 ++ d.opw0

/-! ### Words written out from the spec's encoding tables, one per constructor -/

/-- 30_encoding R66: `INIT` = OPW0 0x00000001. -/
theorem decode_init_word : decodeDescriptor ⟨0x00000001, 0, 0⟩ = some .init := by decide
/-- 30_encoding R66: `SETWIN 0, 0, 240, 240`. -/
theorem decode_setwin_word :
    decodeDescriptor ⟨0x00000002, 0x00000000, 0x00F000F0⟩ = some (.setwin 0 0 240 240) := by decide
/-- 30_encoding R66: `FILL 10, 20, 12, 23, 0x07E0`. -/
theorem decode_fill_word :
    decodeDescriptor ⟨0x07E00003, 0x0014000A, 0x0017000C⟩ = some (.fill 10 20 12 23 0x07E0) := by decide
/-- 30_encoding R66: `FILLSCR 0xF800`. -/
theorem decode_fillscr_word : decodeDescriptor ⟨0xF8000004, 0, 0⟩ = some (.fillscr 0xF800) := by decide
/-- 30_encoding R63: OP_CASET, default 0x2A. -/
theorem decode_caset_byte : decodeWire Config.thisHardware 0x2A = some .caset := by decide
/-- 30_encoding R63: OP_RASET, default 0x2B. -/
theorem decode_raset_byte : decodeWire Config.thisHardware 0x2B = some .raset := by decide
/-- 30_encoding R63: OP_RAMWR, default 0x2C. -/
theorem decode_ramwr_byte : decodeWire Config.thisHardware 0x2C = some .ramwr := by decide
/-- 30_encoding R63: OP_SLPOUT, default 0x11. -/
theorem decode_slpout_byte : decodeWire Config.thisHardware 0x11 = some .slpout := by decide
/-- 30_encoding R63: OP_DISPON, default 0x29. -/
theorem decode_dispon_byte : decodeWire Config.thisHardware 0x29 = some .dispon := by decide

end Sys2Proof
end

