-- ==== Sys2Proof/Machine/State.lean ====
section
/-! DEFINITION. The state of the machine (10_state R11), its reasons to stop, and the state after block reset
(70_reset R127). -/

namespace Sys2Proof.Machine

/-- Why a step stops with a fault. The block itself has no trap (60_exceptions R110): its faults are recorded in STATUS
and the step that records one answers a next state. -/
inductive Fault where
  /-- Raised by the sequencer alone, in a state with BUSY = 1 whose SEQ_PC or SEQ_PHASE does not fit MPROG, for which the
  spec has no rule (10_state R22, R23). No state that meets the invariant `Sys2Proof.Inv` raises it. Safe: it stops
  (log 17). -/
  | sequencerOutOfStep
  deriving DecidableEq, Repr

/-- Why a step is refused. -/
inductive Refusal where
  /-- An instruction without a meaning. No arm of exec answers it. Safe. -/
  | notModelled (mnemonic : String)
  /-- Raised by a host access that is not 32 bits wide: "a model refuses it" (20_memory R32). Safe (log 13). -/
  | accessWidth
  /-- Raised by a host access at an offset that is not a multiple of 4: "a model refuses it" (20_memory R32). Safe (log 13). -/
  | misaligned
  /-- Raised by every step under an invalid configuration: "a model refuses an invalid configuration" (70_reset R129).
  Safe (log 14). -/
  | invalidConfiguration
  deriving DecidableEq, Repr

/-- The machine. What 10_state R11 lists, but for SBUSY, STATUS, CS_OPEN and the four line pins, which the spec makes
functions of other fields (log 16); then the configuration, the trace and the model's own fields. -/
structure State where
  /-- the configuration (00_scope R5); no step writes it (log 1) -/
  cfg : Config
  /-- OPW0, OPW1, OPW2 (10_state R20) -/
  opw0 : Word32
  opw1 : Word32
  opw2 : Word32
  /-- STATUS.PSTATE (10_state R12) -/
  pstate : PanelState
  /-- STATUS.BUSY (10_state R15) -/
  busy : Bool
  /-- STATUS.F_ILLEGAL, F_UBI, F_OVERLAP, TIMEOUT, sticky (10_state R17) -/
  fIllegal : Bool
  fUbi : Bool
  fOverlap : Bool
  timeout : Bool
  /-- STATUS.LAST_CAUSE (10_state R18) -/
  lastCause : Cause
  /-- STATUS.TIMEOUT_COUNT, saturating (10_state R19) -/
  timeoutCount : BitVec 16
  /-- LATCH (10_state R21); none is the spec's "empty" -/
  latch : Option Descriptor
  /-- MPROG and SEQ_PC (10_state R22) -/
  mprog : List MicroOp
  seqPc : Nat
  /-- SEQ_PHASE, WAIT_CNT, DLY_CNT (10_state R23) -/
  seqPhase : SeqPhase
  waitCnt : Nat
  dlyCnt : Nat
  /-- SR and BC (10_state R24) -/
  sr : Byte
  bc : Nat
  /-- L_RST, L_CS, L_DC, L_BL (10_state R25) -/
  lRst : Level
  lCs : Level
  lDc : Level
  lBl : Level
  /-- the pins SCK and MOSI as last driven (10_state R26) -/
  sck : Level
  mosi : Level
  /-- the pin trace, oldest event first (20_memory R44) -/
  trace : List Event
  /-- the model's own: (SCK, MOSI) each time the shifter drove them, oldest first (log 8) -/
  busLog : List (Level × Level)
  /-- the model's own: what the host will do, oldest first (log 3) -/
  hostQueue : List HostOp
  /-- the model's own: what host reads gave back, oldest first (log 3) -/
  hostReads : List Word32
  /-- the model's own: the counter free values are drawn at (log 20) -/
  tick : Nat
  deriving DecidableEq, Repr

/-- The state right after block reset under configuration c (70_reset R127), the draws of this reset taken at n. -/
def State.resetAt (c : Config) (n : Nat) : State where
  cfg := c
  opw0 := 0
  opw1 := 0
  opw2 := 0
  pstate := .unpowered
  busy := false
  fIllegal := false
  fUbi := false
  fOverlap := false
  timeout := false
  lastCause := .none
  timeoutCount := 0
  latch := none
  mprog := []
  seqPc := 0
  seqPhase := .idle
  waitCnt := 0
  dlyCnt := 0
  sr := Config.resetSr n
  bc := 0
  lRst := Config.initRst n
  lCs := Config.initCs n
  lDc := Config.initDc n
  lBl := c.blLevel
  sck := HIGH
  mosi := Config.idleMosi n
  trace := []
  busLog := []
  hostQueue := []
  hostReads := []
  tick := n

/-- The machine right after reset. -/
def State.reset : State := State.resetAt Config.thisHardware 0

/-- The three outcomes of a step of this machine. -/
abbrev Out := Host.Outcome State Fault Refusal

end Sys2Proof.Machine
end

