-- ==== Sys2Proof/Machine/Operands.lean ====
section
/-! DEFINITION. Operand forms: byte halves, coordinates and their clamp, colour fields, pixel order, and the numbers
computed from the configuration. -/

namespace Sys2Proof.Machine

/-- lo8(v) = v[7:0] of a natural coordinate (00_scope R7). -/
def lo8 (v : Nat) : Byte := BitVec.ofNat 8 v

/-- hi8(c) = c[15:8] of a colour (00_scope R7). -/
def colorHi8 (c : Half) : Byte := c.extractLsb' 8 8

/-- lo8(c) = c[7:0] of a colour (00_scope R7). -/
def colorLo8 (c : Half) : Byte := c.extractLsb' 0 8

/-- R = c[15:11] (43_raster R102). -/
def colorRed (c : Half) : BitVec 5 := c.extractLsb' 11 5

/-- G = c[10:5] (43_raster R102). -/
def colorGreen (c : Half) : BitVec 6 := c.extractLsb' 5 6

/-- B = c[4:0] (43_raster R102). -/
def colorBlue (c : Half) : BitVec 5 := c.extractLsb' 0 5

/-- c = {R, G, B} (43_raster R102). -/
def composeColor (r : BitVec 5) (g : BitVec 6) (b : BitVec 5) : Half := r ++ g ++ b

/-- What the clamp answers (43_raster R99). -/
structure Clamped where
  x0 : Nat
  y0 : Nat
  x1c : Nat
  y1c : Nat
  empty : Bool
  deriving DecidableEq, Repr

/-- Clamp (43_raster R99): x1 to W and y1 to H; x0 and y0 are never clamped. -/
def clamp (c : Config) (x0 y0 x1 y1 : Nat) : Clamped where
  x0 := x0
  y0 := y0
  x1c := min x1 c.width
  y1c := min y1 c.height
  empty := decide (min x1 c.width ≤ x0) || decide (min y1 c.height ≤ y0)

/-- The pixels of a clamped rectangle in emission order (43_raster R105): in row-major order pixel i is
(x0 + (i mod w), y0 + (i div w)) with w = x1c - x0. -/
def pixelCoords (t : Traversal) (x0 y0 x1c y1c : Nat) : List (Nat × Nat) :=
  (List.range ((x1c - x0) * (y1c - y0))).map fun i =>
    match t with
    | .rowMajor => (x0 + i % (x1c - x0), y0 + i / (x1c - x0))
    | .columnMajor => (x0 + i / (y1c - y0), y0 + i % (y1c - y0))

/-- The coordinate operands of a descriptor are zero-extended to naturals (30_encoding R53). -/
def coord (v : Half) : Nat := v.toNat

/-- r = floor(F_SYS / F_TARGET) (40_transport R67). -/
def clockRatio (c : Config) : Nat := c.fSys / c.fTarget

/-- DIV, the bus clock divider (40_transport R67, 10_state R27). -/
def divider (c : Config) : Nat :=
  if clockRatio c < Config.divMin then Config.divMin else min (2 ^ Nat.log2 (clockRatio c)) c.divMax

/-- ceil(us · F_SYS / 1 000 000), the F_SYS cycles of a delay (40_transport R81). -/
def delayCycles (c : Config) (us : Nat) : Nat := (us * c.fSys + 999999) / 1000000

end Sys2Proof.Machine
end

