-- ==== Sys2Proof/Machine/Flags.lean ====
section
/-! DEFINITION. STATUS: its codes, its fields and the word a read gives (10_state R12 to R19). -/

namespace Sys2Proof.Machine

/-- The PSTATE codes (10_state R12). -/
def panelCode : PanelState → BitVec 3
  | .unpowered => 0
  | .resetting => 1
  | .configuring => 2
  | .sleeping => 3
  | .active => 4

/-- The cause codes (60_exceptions R112). -/
def causeCode : Cause → BitVec 3
  | .none => 0
  | .illegal => 1
  | .ubi => 2
  | .overlap => 3
  | .timeout => 4

/-- The cause a fault records (60_exceptions R117). -/
def faultCause : HostFault → Cause
  | .illegal => .illegal
  | .ubi => .ubi
  | .overlap => .overlap

/-- STATUS.CS_OPEN: 1 exactly when L_CS = LOW (10_state R16). -/
def csOpen (s : State) : Bool := !s.lCs

/-- STATUS as a host read gives it (10_state R14); bits 15:12 are hardwired to zero. -/
def statusWord (s : State) : Word32 :=
  s.timeoutCount ++ 0#4 ++ causeCode s.lastCause ++ BitVec.ofBool s.timeout ++ BitVec.ofBool s.fOverlap
    ++ BitVec.ofBool s.fUbi ++ BitVec.ofBool s.fIllegal ++ BitVec.ofBool (csOpen s) ++ BitVec.ofBool s.busy
    ++ panelCode s.pstate

/-- min(TIMEOUT_COUNT + 1, 0xFFFF) (10_state R19). -/
def countTimeout (n : BitVec 16) : BitVec 16 := if n = 0xFFFF then 0xFFFF else n + 1

/-- A faulted state: F_ILLEGAL, F_UBI or F_OVERLAP set (10_state R17, 60_exceptions R121). -/
def faulted (s : State) : Bool := s.fIllegal || s.fUbi || s.fOverlap

end Sys2Proof.Machine
end

