-- ==== Sys2Proof/Machine/Ops.lean ====
section
/-! DEFINITION. The named operations on the state: recording a fault, recording a timeout, the trace, the lines and pins,
the shifter, accepting and completing an operation, the register window, block reset. -/

namespace Sys2Proof.Machine

/-! ### Errors (the block's only "exceptions": recorded, never taken, 60_exceptions R110, R122) -/

/-- raise Fault(code) (60_exceptions R117): the sticky bit and LAST_CAUSE, and nothing else. It is the one operation every
fault goes through; there is no return from it (R122). -/
def raiseFault (f : HostFault) (s : State) : State :=
  match f with
  | .illegal => { s with fIllegal := true, lastCause := faultCause .illegal }
  | .ubi => { s with fUbi := true, lastCause := faultCause .ubi }
  | .overlap => { s with fOverlap := true, lastCause := faultCause .overlap }

/-- Emit(e): append an event to the pin trace (20_memory R44). -/
def emit (e : Event) (s : State) : State := { s with trace := s.trace ++ [e] }

/-- timeout(p) (40_transport R79). -/
def recordTimeout (p : WaitTag) (s : State) : State :=
  emit (.timeout p)
    { s with timeout := true, timeoutCount := countTimeout s.timeoutCount, lastCause := .timeout }

/-! ### Lines and pins -/

/-- L_l, the logical level of a control line (10_state R25). -/
def lineLevel (s : State) : Line → Level
  | .rst => s.lRst
  | .cs => s.lCs
  | .dc => s.lDc
  | .bl => s.lBl

/-- pin(l) = L_l XOR INV (40_transport R74). -/
def pin (s : State) (l : Line) : Level := lineLevel s l ^^ s.cfg.inv

/-- LINE(l, v) but for its completion (40_transport R75): the level (and with it the pin) and the event. -/
def driveLine (l : Line) (v : Level) (s : State) : State :=
  emit (.line l v)
    (match l with
    | .rst => { s with lRst := v }
    | .cs => { s with lCs := v }
    | .dc => { s with lDc := v }
    | .bl => { s with lBl := v })

/-! ### Shifter -/

/-- SBUSY, the busy flag: SBUSY = (BC ≠ 0) at all times (10_state R24). -/
def sbusy (s : State) : Bool := decide (s.bc ≠ 0)

/-- The shifter drives SCK and MOSI. The log of it is the model's own (log 8). -/
def driveBus (sck mosi : Level) (s : State) : State :=
  { s with sck := sck, mosi := mosi, busLog := s.busLog ++ [(sck, mosi)] }

/-- One bit step (40_transport R69): SCK LOW with MOSI at SR[7], SCK HIGH, then SR shifted left and BC counted down. -/
def bitStep (s : State) : State :=
  let t := driveBus HIGH (s.sr.getLsbD 7) (driveBus LOW (s.sr.getLsbD 7) s)
  { t with sr := s.sr <<< 1, bc := s.bc - 1 }

/-- The level of the pin MOSI: what the shifter drove while a byte is part shifted, a free value between bytes and when
idle (40_transport R71; log 8). -/
def pinMosi (s : State) : Level :=
  if 0 < s.bc ∧ s.bc < 8 then s.mosi else Config.idleMosi s.tick

/-- Issue: the event, the shifter loaded, and the POST wait begun (40_transport R68, R78). An issue while a byte is in
flight overwrites it. -/
def issueByte (b : Byte) (s : State) : State :=
  emit (.byte b s.lCs s.lDc) { s with sr := b, bc := 8, seqPhase := .waitPost, waitCnt := 0 }

/-! ### Sequencer: acceptance and completion -/

/-- The descriptor the registers hold (10_state R20). -/
def descriptor (s : State) : Descriptor := ⟨s.opw0, s.opw1, s.opw2⟩

/-- MPROG[SEQ_PC] (10_state R22). -/
def currentOp (s : State) : Option MicroOp := s.mprog[s.seqPc]?

/-- complete() (30_encoding R56). LATCH keeps its value. -/
def complete (s : State) : State :=
  { s with busy := false, mprog := [], seqPc := 0, seqPhase := .idle }

/-- The current micro-operation completes (30_encoding R56): SEQ_PC advances by 1, and at the end of MPROG the operation
completes. -/
def microDone (s : State) : State :=
  if s.mprog.length ≤ s.seqPc + 1 then complete s else { s with seqPc := s.seqPc + 1, seqPhase := .ready }

/-- Acceptance (30_encoding R52): LATCH, MPROG, SEQ_PC, BUSY and SEQ_PHASE; an empty micro-program completes in the same
step (10_state R15). -/
def accept (prog : List MicroOp) (s : State) : State :=
  let t := { s with latch := some (descriptor s), mprog := prog, seqPc := 0, busy := true, seqPhase := .ready }
  if prog.isEmpty then complete t else t

/-- The checks of a submission whose descriptor is a host operation, in the order of 30_encoding R52: OVERLAP, then (for a
raster operation) UBI, then acceptance. ILLEGAL, between the two, is the decoder's (`Machine.submitIllegal`). -/
def submitOp (raster : Bool) (prog : List MicroOp) (s : State) : State :=
  if s.busy then raiseFault .overlap s
  else if raster && decide (s.pstate ≠ .active) then raiseFault .ubi s
  else accept prog s

/-- A submission whose descriptor is no host operation (30_encoding R52, R54): OVERLAP where BUSY = 1, else ILLEGAL. -/
def submitIllegal (s : State) : State :=
  if s.busy then raiseFault .overlap s else raiseFault .illegal s

/-! ### The register window (20_memory R31) -/

/-- A host read: the register decoded by offset bits [3:2] (20_memory R30, R31). -/
def readReg (off : BitVec 4) (s : State) : Word32 :=
  if off.extractLsb' 2 2 = 0 then s.opw0
  else if off.extractLsb' 2 2 = 1 then s.opw1
  else if off.extractLsb' 2 2 = 2 then s.opw2
  else statusWord s

/-- The part of a host write that stores (20_memory R31, R34, R36): OPW0, OPW1 or OPW2; a write to STATUS changes
nothing. -/
def writeReg (off : BitVec 4) (v : Word32) (s : State) : State :=
  if off.extractLsb' 2 2 = 0 then { s with opw0 := v }
  else if off.extractLsb' 2 2 = 1 then { s with opw1 := v }
  else if off.extractLsb' 2 2 = 2 then { s with opw2 := v }
  else s

/-- The offset in the register window of a host address (20_memory R30): the window is the 16 bytes at BASE; any other
address is not the block's. -/
def hostOffset (c : Config) (addr : Nat) : Option (BitVec 4) :=
  if c.base ≤ addr ∧ addr < c.base + 16 then some (BitVec.ofNat 4 (addr - c.base)) else none

/-! ### Block reset -/

/-- Block reset (70_reset R126): every piece of state to its reset value, the trace of the new run empty, under the same
configuration; the levels the spec leaves open are drawn anew. The host is outside the block: its queue, its reads and the
draw counter stay (log 11). -/
def blockReset (s : State) : State :=
  { State.resetAt s.cfg s.tick with hostQueue := s.hostQueue, hostReads := s.hostReads }

/-- A step begins: the draw counter moves on (log 20). -/
def advance (s : State) : State := { s with tick := s.tick + 1 }

end Sys2Proof.Machine
end

