-- ==== Sys2Proof/Machine/Transport.lean ====
section
/-! DEFINITION. The Transport (40_transport): bounded waits, BYTE, DELAY, and the four micro-operations as the sequencer
executes them. Where a wait may be abandoned by draw, the draw is an argument. -/

namespace Sys2Proof.Machine

/-- delayMs(n), delayUs(n) (30_encoding R60, 40_transport R81). -/
def delayMs (n : Nat) : MicroOp := .delay (1000 * n)
def delayUs (n : Nat) : MicroOp := .delay n

/-- Wait(ms) (00_scope R8). -/
def waitMs (ms : Nat) : List MicroOp := if 0 < ms then [delayMs ms] else []

/-- writeBytes(buf) (40_transport R80). -/
def writeBytes (buf : List Byte) : List MicroOp := buf.map .byte

/-- What a poll of a bounded wait finds (40_transport R76). -/
inductive Poll where
  | satisfied
  | abandoned
  | again
  deriving DecidableEq, Repr

/-- One poll (40_transport R76): satisfied where SBUSY = 0; abandoned where WAIT_CNT has reached BUSY_WAIT_LIMIT, or where
the draw says so ("admitted only while SBUSY = 1"); otherwise one more poll to come (log 6). -/
def pollWait (draw : Bool) (s : State) : Poll :=
  if sbusy s = false then .satisfied
  else if s.waitCnt = s.cfg.busyWaitLimit ∨ draw = true then .abandoned
  else .again

/-- A poll that goes on counts (40_transport R76). -/
def countPoll (s : State) : State := { s with waitCnt := s.waitCnt + 1 }

/-- A poll of BYTE's PRE wait, and the issue where the wait ends (40_transport R78). -/
def pollPre (draw : Bool) (b : Byte) (s : State) : State :=
  match pollWait draw s with
  | .satisfied => issueByte b s
  | .abandoned => issueByte b (recordTimeout .pre s)
  | .again => countPoll s

/-- A poll of BYTE's POST wait, and the completion where the wait ends (40_transport R78). -/
def pollPost (draw : Bool) (s : State) : State :=
  match pollWait draw s with
  | .satisfied => microDone s
  | .abandoned => microDone (recordTimeout .post s)
  | .again => countPoll s

/-- BYTE(b) begins: the PRE wait and its first poll (40_transport R78). -/
def beginByte (draw : Bool) (b : Byte) (s : State) : State :=
  pollPre draw b { s with seqPhase := .waitPre, waitCnt := 0 }

/-- DELAY(us) begins (40_transport R81): the event and DLY_CNT. -/
def beginDelay (us : Nat) (s : State) : State :=
  emit (.delay us) { s with seqPhase := .delaying, dlyCnt := delayCycles s.cfg us }

/-- The rest of a DELAY in the untimed reading (40_transport R81: "In the untimed model DELAY completes in one step"): every
cycle left is counted, and the DELAY completes (log 5). -/
def runDelay (s : State) : State := microDone { s with dlyCnt := 0 }

/-- STATE(p): PSTATE <- p, no event (42_panel_init R89). -/
def setPanelState (p : PanelState) (s : State) : State := { s with pstate := p }

/-- The first step of a micro-operation (30_encoding R56). -/
def seqStart (draw : Bool) (op : MicroOp) (s : State) : State :=
  match op with
  | .line l v => microDone (driveLine l v s)
  | .byte b => beginByte draw b s
  | .delay us => runDelay (beginDelay us s)
  | .state p => microDone (setPanelState p s)

/-- One step of the sequencer while BUSY = 1 (30_encoding R56): start the current micro-operation, or go on with it in the
phase it has reached. A phase that does not fit the micro-operation, or no micro-operation, is a state the spec has no rule
for. -/
def seqMicro (draw : Bool) (s : State) : Out :=
  match s.seqPhase, currentOp s with
  | .ready, some op => .next (seqStart draw op s)
  | .waitPre, some (.byte b) => .next (pollPre draw b s)
  | .waitPost, some (.byte _) => .next (pollPost draw s)
  | .delaying, some (.delay _) => .next (runDelay s)
  | _, _ => .fault .sequencerOutOfStep

end Sys2Proof.Machine
end

