-- ==== Sys2Proof/Machine/Framer.lean ====
section
/-! DEFINITION. The Protocol Framer (41_framer): macros that expand to micro-operations. -/

namespace Sys2Proof.Machine

/-- sendCommand(op) (41_framer R82): opens a frame and leaves it open. -/
def sendCommand (op : Byte) : List MicroOp := [.line .cs LOW, .line .dc LOW, .byte op]

/-- sendData(b) (41_framer R83). No host operation uses it. -/
def sendData (b : Byte) : List MicroOp := [.line .dc HIGH, .byte b, .line .cs HIGH]

/-- sendCommandWithParams(op, ps), SCWP(op, ps) (41_framer R84). -/
def scwp (op : Byte) (ps : List Byte) : List MicroOp :=
  [.line .cs LOW, .line .dc LOW, .byte op, .line .dc HIGH] ++ writeBytes ps ++ [.line .cs HIGH]

end Sys2Proof.Machine
end

