-- ==== Sys2Proof/Machine/Panel.lean ====
section
/-! DEFINITION. The Panel Controller (42_panel_init): the init table's replay, and INIT. -/

namespace Sys2Proof.Machine

/-- One entry of the table as it is sent: one frame and its post-delay (42_panel_init R90). -/
def replayEntry (e : InitEntry) : List MicroOp := scwp e.opcode e.params ++ waitMs e.postDelayMs

/-- ReplayTable(T) (42_panel_init R90). -/
def replayTable (t : List InitEntry) : List MicroOp := t.flatMap replayEntry

/-- The reset pulse of transition 1 (42_panel_init R88, R91, R92). -/
def resetPulse (c : Config) : List MicroOp :=
  [.line .rst HIGH] ++ waitMs c.tRstPreMs
  ++ [.line .rst LOW] ++ waitMs c.tRstLowMs
  ++ [.line .rst HIGH] ++ waitMs c.tRstPostMs

/-- InitProgram() (42_panel_init R91). -/
def initProgram (c : Config) : List MicroOp :=
  [.state .resetting] ++ resetPulse c
  ++ [.state .configuring] ++ replayTable c.initTable
  ++ [.state .sleeping] ++ scwp c.opSlpout [] ++ waitMs c.tSlpoutMs
  ++ [.state .active] ++ scwp c.opDispon [] ++ waitMs c.tDisponMs

/-- INIT (42_panel_init R91): accepted in every PSTATE (R88); OVERLAP where BUSY = 1; never UBI. -/
def execInit (s : State) : Out := .next (submitOp false (initProgram s.cfg) s)

end Sys2Proof.Machine
end

