-- ==== Sys2Proof/Machine/Raster.lean ====
section
/-! DEFINITION. The Raster Writer (43_raster): SETWIN, FILL, FILLSCR, and Expand (30_encoding R55). -/

namespace Sys2Proof.Machine

/-- AddressWrites (43_raster R100). -/
def addressWrites (c : Config) (x0 y0 x1c y1c : Nat) : List MicroOp :=
  scwp c.opCaset [0x00, lo8 x0, 0x00, lo8 (x1c - 1)] ++ scwp c.opRaset [0x00, lo8 y0, 0x00, lo8 (y1c - 1)]

/-- WindowProgram(x0, y0, x1, y1) (43_raster R101): the memory-write frame is left open. -/
def windowProgram (c : Config) (x0 y0 x1 y1 : Nat) : List MicroOp :=
  let r := clamp c x0 y0 x1 y1
  if r.empty then [] else addressWrites c r.x0 r.y0 r.x1c r.y1c ++ sendCommand c.opRamwr

/-- The two bytes of a pixel, most significant first (43_raster R102, R104). -/
def pixelBytes (color : Half) : List MicroOp := [.byte (colorHi8 color), .byte (colorLo8 color)]

/-- The pixel stream of a clamped rectangle (43_raster R104, R105): every pixel has the one colour. -/
def pixelStream (c : Config) (x0 y0 x1c y1c : Nat) (color : Half) : List MicroOp :=
  (pixelCoords c.traversal x0 y0 x1c y1c).flatMap fun _ => pixelBytes color

/-- FillProgram(x0, y0, x1, y1, c) (43_raster R104). -/
def fillProgram (c : Config) (x0 y0 x1 y1 : Nat) (color : Half) : List MicroOp :=
  let r := clamp c x0 y0 x1 y1
  if r.empty then []
  else windowProgram c r.x0 r.y0 r.x1c r.y1c ++ [.line .dc HIGH]
    ++ pixelStream c r.x0 r.y0 r.x1c r.y1c color ++ [.line .cs HIGH]

/-- FILLSCR's micro-program: FillProgram(0, 0, W, H, COLOR) (43_raster R106). -/
def fillScreenProgram (c : Config) (color : Half) : List MicroOp := fillProgram c 0 0 c.width c.height color

/-- SETWIN x0, y0, x1, y1 (43_raster R101). -/
def execSetwin (x0 y0 x1 y1 : Half) (s : State) : Out :=
  .next (submitOp true (windowProgram s.cfg (coord x0) (coord y0) (coord x1) (coord y1)) s)

/-- FILL x0, y0, x1, y1, color (43_raster R104). -/
def execFill (x0 y0 x1 y1 color : Half) (s : State) : Out :=
  .next (submitOp true (fillProgram s.cfg (coord x0) (coord y0) (coord x1) (coord y1) color) s)

/-- FILLSCR color (43_raster R106). -/
def execFillscr (color : Half) (s : State) : Out :=
  .next (submitOp true (fillScreenProgram s.cfg color) s)

/-- Expand(LATCH) (30_encoding R55): from the latched fields and the configuration alone. A descriptor that is no host
operation is never latched. -/
def expand (c : Config) (d : Descriptor) : List MicroOp :=
  match decodeDescriptor d with
  | some .init => initProgram c
  | some (.setwin x0 y0 x1 y1) => windowProgram c (coord x0) (coord y0) (coord x1) (coord y1)
  | some (.fill x0 y0 x1 y1 color) => fillProgram c (coord x0) (coord y0) (coord x1) (coord y1) color
  | some (.fillscr color) => fillScreenProgram c color
  | _ => []

end Sys2Proof.Machine
end

