-- ==== Sys2Proof/Machine/Wire.lean ====
section
/-! DEFINITION. The five named wire commands (30_encoding R62, R63): each is the sequencer's BYTE of its opcode, begun at
SEQ_PHASE = READY (40_transport R78). With CS LOW and DC LOW, as the block sends it, the byte is a command; the parameter
and pixel bytes after it are further BYTE micro-operations of the same micro-program (log 15). -/

namespace Sys2Proof.Machine

/-- The command byte op begins (40_transport R78): its PRE wait, and with SBUSY = 0 its issue. Whether a poll that finds
SBUSY = 1 abandons the wait is a draw (R76, log 6). -/
def sendWireByte (op : Byte) (s : State) : Out := .next (beginByte (Config.waitAbandoned s.tick) op s)

/-- CASET, the column address command (30_encoding R63, 43_raster R100). -/
def execCaset (s : State) : Out := sendWireByte s.cfg.opCaset s

/-- RASET, the row address command (30_encoding R63, 43_raster R100). -/
def execRaset (s : State) : Out := sendWireByte s.cfg.opRaset s

/-- RAMWR, the memory write command (30_encoding R63, 43_raster R101, R104). -/
def execRamwr (s : State) : Out := sendWireByte s.cfg.opRamwr s

/-- SLPOUT, sleep out (30_encoding R63, 42_panel_init R91). -/
def execSlpout (s : State) : Out := sendWireByte s.cfg.opSlpout s

/-- DISPON, display on (30_encoding R63, 42_panel_init R91). -/
def execDispon (s : State) : Out := sendWireByte s.cfg.opDispon s

end Sys2Proof.Machine
end

