-- ==== Sys2Proof/Machine/Agents.lean ====
section
/-! DEFINITION. What each agent does in one step (20_memory R37, 30_encoding R56, 40_transport R68), which agent moves,
and how an instruction comes to be the next one executed. -/

namespace Sys2Proof.Machine

/-! ### The host -/

/-- Submission (30_encoding R52): the descriptor {OPW0, OPW1, OPW2} is decoded and its operation executed; a descriptor that
is no operation is refused by the block with a fault bit. -/
def submit (s : State) : Out :=
  match decodeDescriptor (descriptor s) with
  | some i => exec i s
  | none => .next (submitIllegal s)

/-- The outcome of a host access the spec defines: 32 bits wide and aligned (20_memory R32). -/
def checkedAccess (off : BitVec 4) (size : Nat) (k : Out) : Out :=
  if size ≠ 4 then .refused .accessWidth
  else if off.extractLsb' 0 2 ≠ 0 then .refused .misaligned
  else k

/-- One host operation (20_memory R31 to R37). A write to offset 0 stores OPW0 and submits, in this one step (R35). WAITIDLE
reads STATUS and stays first in the queue while BUSY = 1 (30_encoding R59, log 12). -/
def hostOp (op : HostOp) (rest : List HostOp) (s : State) : Out :=
  match op with
  | .read off size =>
    checkedAccess off size (.next { s with hostReads := s.hostReads ++ [readReg off s], hostQueue := rest })
  | .write off size v =>
    checkedAccess off size
      (if off.extractLsb' 2 2 = 0 then submit (writeReg off v { s with hostQueue := rest })
       else .next (writeReg off v { s with hostQueue := rest }))
  | .waitIdle =>
    .next { s with hostReads := s.hostReads ++ [statusWord s],
                   hostQueue := if (statusWord s).getLsbD 3 then s.hostQueue else rest }
  | .reset => .next (blockReset { s with hostQueue := rest })

/-- The host's step: its oldest operation. -/
def hostStep (s : State) : Out :=
  match s.hostQueue with
  | [] => .next s
  | op :: rest => hostOp op rest s

/-! ### The sequencer -/

/-- The wire command the sequencer is about to send: the byte of a BYTE micro-operation about to start with CS LOW and DC LOW
(30_encoding R62), where it is one of the named commands (R63). -/
def wireCommand (s : State) : Option Instr :=
  match s.seqPhase, currentOp s with
  | .ready, some (.byte b) => if s.lCs = LOW ∧ s.lDc = LOW then decodeWire s.cfg b else none
  | _, _ => none

/-- The sequencer's step (30_encoding R56). -/
def sequencerStep (s : State) : Out :=
  match wireCommand s with
  | some i => exec i s
  | none => seqMicro (Config.waitAbandoned s.tick) s

/-! ### Which agent moves -/

/-- The agents that can step: the shifter while BC > 0 (40_transport R68), the sequencer while BUSY = 1 (30_encoding R56),
the host while it has something to do (20_memory R48). -/
def enabledAgents (s : State) : List Agent :=
  (if 0 < s.bc then [Agent.shifter] else []) ++ (if s.busy then [Agent.sequencer] else [])
    ++ (if s.hostQueue.isEmpty then [] else [Agent.host])

/-- The agent that moves (20_memory R37): where one can, that one; where several can, the one a free value names (log 4);
where none can, none (R48). -/
def pickAgent (s : State) : Option Agent :=
  match enabledAgents s with
  | [] => none
  | [a] => some a
  | a :: b :: rest =>
    if (a :: b :: rest).contains (Config.nextAgent s.tick) then some (Config.nextAgent s.tick) else some a

/-- One step of an agent. With no agent able to step the block waits for a submission (70_reset R127, log 18). -/
def agentStep (a : Option Agent) (s : State) : Out :=
  match a with
  | none => .next s
  | some .host => hostStep s
  | some .sequencer => sequencerStep s
  | some .shifter => .next (bitStep s)

/-- One step of the machine: refused under an invalid configuration (70_reset R129); else the agent whose turn it is. -/
def machineStep (s : State) : Out :=
  if s.cfg.valid then agentStep (pickAgent s) (advance s) else .refused .invalidConfiguration

/-! ### Placing an instruction -/

/-- s with the instruction of a code about to be executed by the very next step (log 3). A descriptor: OPW1 and OPW2 hold
their words, the block and the shifter are idle, and the host's one operation left is the write of OPW0 that submits it. A
command byte: the running micro-program is sendCommand of it with the lines already driven, SEQ_PC at its BYTE, and neither
the shifter nor the host can move. -/
def placeCode (k : Code) (s : State) : State :=
  match k with
  | .descriptor d =>
    { s with opw1 := d.opw1, opw2 := d.opw2, hostQueue := [.write 0 4 d.opw0], bc := 0,
             busy := false, mprog := [], seqPc := 0, seqPhase := .idle }
  | .wire b =>
    { s with mprog := sendCommand b, seqPc := 2, seqPhase := .ready, busy := true, lCs := LOW, lDc := LOW, bc := 0,
             hostQueue := [] }

end Sys2Proof.Machine
end

