-- ==== Sys2Proof/Machine/Step.lean ====
section
/-! DEFINITION. The step of the machine, and how the host of this row places an instruction. -/

namespace Sys2Proof.Machine

/-- One step (20_memory R37). -/
def step (s : State) : Host.Outcome State Fault Refusal := machineStep s

/-- s with an instruction of the opcode table about to be executed by the next step. -/
def State.withFetchWord (s : State) (nbits w : Nat) : State := placeCode (Code.ofTableWord nbits w) s

end Sys2Proof.Machine
end

