-- ==== Sys2Proof/Machine/Assembler.lean ====
section
/-! DEFINITION. The assembler of host programs (30_encoding R58, R59): statements, the host operations they stand for, and
their text. -/

namespace Sys2Proof.Machine

/-- An assembler statement, its operands unsigned numbers (30_encoding R58, R59). -/
inductive AsmStmt where
  | init
  | setwin (x0 y0 x1 y1 : Nat)
  | fill (x0 y0 x1 y1 color : Nat)
  | fillscr (color : Nat)
  | waitIdle
  | fillPx (x y color : Nat)
  | clear
  deriving DecidableEq, Repr

/-- An operand in range, 0 to 65535, as its 16-bit field; none where the assembler refuses it (30_encoding R58). -/
def asmOperand (n : Nat) : Option Half := if n < 65536 then some (BitVec.ofNat 16 n) else none

/-- The writes of a descriptor, OPW1 and OPW2 before OPW0, whose write submits (30_encoding R58, 70_reset R131). -/
def descriptorWrites (d : Descriptor) : List HostOp := [.write 4 4 d.opw1, .write 8 4 d.opw2, .write 0 4 d.opw0]

/-- The write of OPW0 alone: INIT and FILLSCR omit the first two (30_encoding R58). -/
def submitWrite (d : Descriptor) : List HostOp := [.write 0 4 d.opw0]

/-- The writes of SETWIN x0, y0, x1, y1 (30_encoding R58). -/
def asmSetwin (x0 y0 x1 y1 : Nat) : Option (List HostOp) :=
  match asmOperand x0, asmOperand y0, asmOperand x1, asmOperand y1 with
  | some a, some b, some c, some d => some (descriptorWrites ⟨packOpw0 0 0x2, packPair b a, packPair d c⟩)
  | _, _, _, _ => none

/-- The writes of FILL x0, y0, x1, y1, color (30_encoding R58). -/
def asmFill (x0 y0 x1 y1 color : Nat) : Option (List HostOp) :=
  match asmOperand x0, asmOperand y0, asmOperand x1, asmOperand y1, asmOperand color with
  | some a, some b, some c, some d, some k =>
    some (descriptorWrites ⟨packOpw0 k 0x3, packPair b a, packPair d c⟩)
  | _, _, _, _, _ => none

/-- The write of FILLSCR color (30_encoding R58). -/
def asmFillscr (color : Nat) : Option (List HostOp) :=
  match asmOperand color with
  | some k => some (submitWrite ⟨packOpw0 k 0x4, 0, 0⟩)
  | none => none

/-- The host operations of a statement (30_encoding R58, R59); none where the assembler refuses it. FILLPX x, y, color is
FILL x, y, x+1, y+1, color, refused when x or y is 65535. -/
def assemble : AsmStmt → Option (List HostOp)
  | .init => some (submitWrite ⟨packOpw0 0 0x1, 0, 0⟩)
  | .setwin x0 y0 x1 y1 => asmSetwin x0 y0 x1 y1
  | .fill x0 y0 x1 y1 color => asmFill x0 y0 x1 y1 color
  | .fillscr color => asmFillscr color
  | .waitIdle => some [.waitIdle]
  | .fillPx x y color => asmFill x y (x + 1) (y + 1) color
  | .clear => asmFillscr 0x0000

/-- The host operations of a program; none where one of its statements is refused. -/
def assembleAll : List AsmStmt → Option (List HostOp)
  | [] => some []
  | st :: rest =>
    match assemble st, assembleAll rest with
    | some a, some b => some (a ++ b)
    | _, _ => none

/-- `OP ...; WAITIDLE`, the form every test program uses (30_encoding R59, 70_reset R132). -/
def thenWait (st : AsmStmt) : List AsmStmt := [st, .waitIdle]

/-! ### Text (30_encoding R58; spacing is the model's, log 21) -/

/-- The value of a decimal digit. -/
def decDigit (c : Char) : Option Nat := if '0' ≤ c ∧ c ≤ '9' then some (c.toNat - 48) else none

/-- The value of a hexadecimal digit. -/
def hexDigit (c : Char) : Option Nat :=
  if '0' ≤ c ∧ c ≤ '9' then some (c.toNat - 48)
  else if 'a' ≤ c ∧ c ≤ 'f' then some (c.toNat - 87)
  else if 'A' ≤ c ∧ c ≤ 'F' then some (c.toNat - 55)
  else none

/-- The digits' value in a base, onto what was read so far. -/
def digitsValue (digit : Char → Option Nat) (base acc : Nat) : List Char → Option Nat
  | [] => some acc
  | c :: rest =>
    match digit c with
    | some d => digitsValue digit base (acc * base + d) rest
    | none => none

/-- "Operands are unsigned numbers written in decimal or as `0x` hexadecimal" (30_encoding R58). -/
def parseNumber : List Char → Option Nat
  | [] => none
  | '0' :: 'x' :: d :: rest => digitsValue hexDigit 16 0 (d :: rest)
  | c :: rest => digitsValue decDigit 10 0 (c :: rest)

/-- Text without the spaces around it. -/
def trimSpaces (t : List Char) : List Char :=
  ((t.dropWhile (· = ' ')).reverse.dropWhile (· = ' ')).reverse

/-- Text cut at its commas. -/
def cutCommas : List Char → List (List Char)
  | [] => [[]]
  | ',' :: rest => [] :: cutCommas rest
  | c :: rest =>
    match cutCommas rest with
    | [] => [[c]]
    | w :: ws => (c :: w) :: ws

/-- The operands of a statement: none at all, or numbers between commas. -/
def parseOperands (t : List Char) : Option (List Nat) :=
  if trimSpaces t = [] then some [] else (cutCommas t).mapM fun w => parseNumber (trimSpaces w)

/-- The statement of a mnemonic and its operands; none for a mnemonic the lists of 30_encoding R58 and R59 do not hold, or
another number of operands. -/
def asmStmtOf (mnemonic : List Char) (ops : List Nat) : Option AsmStmt :=
  match mnemonic, ops with
  | ['I', 'N', 'I', 'T'], [] => some .init
  | ['S', 'E', 'T', 'W', 'I', 'N'], [x0, y0, x1, y1] => some (.setwin x0 y0 x1 y1)
  | ['F', 'I', 'L', 'L'], [x0, y0, x1, y1, color] => some (.fill x0 y0 x1 y1 color)
  | ['F', 'I', 'L', 'L', 'S', 'C', 'R'], [color] => some (.fillscr color)
  | ['W', 'A', 'I', 'T', 'I', 'D', 'L', 'E'], [] => some .waitIdle
  | ['F', 'I', 'L', 'L', 'P', 'X'], [x, y, color] => some (.fillPx x y color)
  | ['C', 'L', 'E', 'A', 'R'], [] => some .clear
  | _, _ => none

/-- The statement of a line of text. -/
def parseStmt (line : List Char) : Option AsmStmt :=
  match parseOperands ((trimSpaces line).dropWhile (· ≠ ' ')) with
  | some ops => asmStmtOf ((trimSpaces line).takeWhile (· ≠ ' ')) ops
  | none => none

end Sys2Proof.Machine
end

