-- ==== Sys2Proof/Machine/Trace.lean ====
section
/-! DEFINITION. The pin trace seen from outside: the events a micro-program stands for, and the two derived views of
20_memory R45. -/

namespace Sys2Proof.Machine

/-- The events a list of micro-operations emits with no timeout (20_memory R44), begun with L_CS = cs and L_DC = dc. -/
def microEvents (cs dc : Level) : List MicroOp → List Event
  | [] => []
  | .line .cs v :: rest => .line .cs v :: microEvents v dc rest
  | .line .dc v :: rest => .line .dc v :: microEvents cs v rest
  | .line .rst v :: rest => .line .rst v :: microEvents cs dc rest
  | .line .bl v :: rest => .line .bl v :: microEvents cs dc rest
  | .byte b :: rest => .byte b cs dc :: microEvents cs dc rest
  | .delay us :: rest => .delay us :: microEvents cs dc rest
  | .state _ :: rest => microEvents cs dc rest

/-- The micro-operations of the running operation whose event is still to come: in WAIT_POST and DELAYING the current one
has emitted its own (40_transport R78, R81). -/
def pendingOps (s : State) : List MicroOp :=
  match s.seqPhase with
  | .idle => []
  | .ready => s.mprog.drop s.seqPc
  | .waitPre => s.mprog.drop s.seqPc
  | .waitPost => s.mprog.drop (s.seqPc + 1)
  | .delaying => s.mprog.drop (s.seqPc + 1)

/-- The events the running operation still owes, with no timeout (30_encoding R56). -/
def pendingEvents (s : State) : List Event := microEvents s.lCs s.lDc (pendingOps s)

/-- The logical levels of the four lines. -/
structure Levels where
  rst : Level
  cs : Level
  dc : Level
  bl : Level
  deriving DecidableEq, Repr

/-- The level of a line. -/
def Levels.get (v : Levels) : Line → Level
  | .rst => v.rst
  | .cs => v.cs
  | .dc => v.dc
  | .bl => v.bl

/-- The levels after a line is driven. -/
def Levels.set (v : Levels) (l : Line) (x : Level) : Levels :=
  match l with
  | .rst => { v with rst := x }
  | .cs => { v with cs := x }
  | .dc => { v with dc := x }
  | .bl => { v with bl := x }

/-- The wire view (20_memory R45 (a)) of a trace that begins at levels v: every Line event removed that is no edge. -/
def wireView (v : Levels) : List Event → List Event
  | [] => []
  | .line l x :: rest => if v.get l = x then wireView v rest else .line l x :: wireView (v.set l x) rest
  | .byte b cs dc :: rest => .byte b cs dc :: wireView v rest
  | .delay us :: rest => .delay us :: wireView v rest
  | .timeout p :: rest => .timeout p :: wireView v rest

/-- The panel view (20_memory R45 (b)) of a trace that begins with L_RST = rst: commands and data with CS LOW, a Reset for
each falling edge of RST, a Gap for each Delay. -/
def panelView (rst : Level) : List Event → List PanelItem
  | [] => []
  | .line .rst v :: rest =>
    if rst = HIGH ∧ v = LOW then .reset :: panelView v rest else panelView v rest
  | .line .cs _ :: rest => panelView rst rest
  | .line .dc _ :: rest => panelView rst rest
  | .line .bl _ :: rest => panelView rst rest
  | .byte b cs dc :: rest =>
    if cs = HIGH then panelView rst rest
    else (if dc = LOW then .cmd b else .data b) :: panelView rst rest
  | .delay us :: rest => .gap us :: panelView rst rest
  | .timeout _ :: rest => panelView rst rest

/-- The bytes a list of micro-operations sends, in order. -/
def bytesOf : List MicroOp → List Byte
  | [] => []
  | .byte b :: rest => b :: bytesOf rest
  | .line _ _ :: rest => bytesOf rest
  | .delay _ :: rest => bytesOf rest
  | .state _ :: rest => bytesOf rest

/-- How many bytes a list of micro-operations sends. -/
def countBytes (prog : List MicroOp) : Nat := (bytesOf prog).length

/-- The panel states a list of micro-operations sets, in order. -/
def panelStates : List MicroOp → List PanelState
  | [] => []
  | .state p :: rest => p :: panelStates rest
  | .line _ _ :: rest => panelStates rest
  | .byte _ :: rest => panelStates rest
  | .delay _ :: rest => panelStates rest

/-- The microseconds of delay in a list of micro-operations. -/
def totalDelay : List MicroOp → Nat
  | [] => 0
  | .delay us :: rest => us + totalDelay rest
  | .line _ _ :: rest => totalDelay rest
  | .byte _ :: rest => totalDelay rest
  | .state _ :: rest => totalDelay rest

/-- The Panel State after a list of micro-operations begun in p (42_panel_init R89). -/
def finalPanel (p : PanelState) : List MicroOp → PanelState
  | [] => p
  | .state q :: rest => finalPanel q rest
  | .line _ _ :: rest => finalPanel p rest
  | .byte _ :: rest => finalPanel p rest
  | .delay _ :: rest => finalPanel p rest

end Sys2Proof.Machine
end

