-- ==== Sys2Proof/Machine/Timed.lean ====
section
/-! DEFINITION. The optional timed reading (40_transport R69, R70, R77): one step is one F_SYS cycle, the sequencer polls
once a cycle, a bit step lasts DIV cycles and a DELAY counts its cycles one by one. It stands beside the machine; `step` does not use it. The host takes no part in
it, and no wait is abandoned by draw. -/

namespace Sys2Proof.Machine

/-- A state with the F_SYS cycles spent in the current bit step. -/
structure Timed where
  core : State
  sub : Nat
  deriving DecidableEq, Repr

/-- A DELAY whose count stands at 0 completes (40_transport R81: "while DLY_CNT > 0"). -/
def checkDelay (s : State) : State := if s.dlyCnt = 0 then microDone s else s

/-- One F_SYS cycle of a DELAY (40_transport R81: "one per F_SYS cycle"). -/
def countDelay (s : State) : State := checkDelay { s with dlyCnt := s.dlyCnt - 1 }

/-- The sequencer's step in the timed reading: the untimed one with no wait abandoned by draw, but for a DELAY, which takes the
cycle that loads DLY_CNT and one cycle for each count. -/
def timedMicro (s : State) : Out :=
  match s.seqPhase, currentOp s with
  | .ready, some (.delay us) => .next (checkDelay (beginDelay us s))
  | .delaying, some (.delay _) => .next (countDelay s)
  | _, _ => seqMicro false s

/-- The sequencer's part of a cycle: one step while BUSY = 1 (40_transport R77: "polls SBUSY once per F_SYS cycle"). -/
def cycleSequencer (s : State) : State :=
  if s.busy then
    match timedMicro s with
    | .next t => t
    | .fault _ => s
    | .refused _ => s
  else s

/-- The event is that of a byte issued. -/
def isByteEvent : Event → Bool
  | .byte _ _ _ => true
  | .line _ _ => false
  | .delay _ => false
  | .timeout _ => false

/-- A byte was issued between s and u: its event was appended to the trace (40_transport R78). -/
def issuedSince (s u : State) : Bool := (u.trace.drop s.trace.length).any isByteEvent

/-- One F_SYS cycle, taken after the draw counter moved on (log 20). The sequencer sees SBUSY as it is at the start of the cycle; a
bit step is complete after DIV cycles with SBUSY = 1 (40_transport R69), and a byte issued in this cycle begins shifting in the
next, so the POST wait finds SBUSY = 0 after 8 · DIV cycles (R77). That is so too where the issue follows an abandoned PRE wait and
overwrites a byte in flight: the bit step it cuts off counts for nothing, and the new byte's first bit step lasts its whole DIV
cycles. The spec leaves everything after the abandoned wait unconstrained (D12), so this is the model's choice. DESIGN CHOICE
(log 7). -/
def cycle (t : Timed) : Timed :=
  let u := cycleSequencer (advance t.core)
  if t.core.bc = 0 ∨ issuedSince t.core u = true then { core := u, sub := 0 }
  else if t.sub + 1 < divider t.core.cfg then { core := u, sub := t.sub + 1 }
  else { core := bitStep u, sub := 0 }

/-- n cycles. -/
def cycles : Nat → Timed → Timed
  | 0, t => t
  | n + 1, t => cycles n (cycle t)

/-- SCK in the timed reading: LOW for the first DIV/2 cycles of a bit step, HIGH for the second DIV/2, HIGH when idle
(40_transport R69). -/
def timedSck (t : Timed) : Level := if t.core.bc ≠ 0 ∧ t.sub < divider t.core.cfg / 2 then LOW else HIGH

/-- MOSI in the timed reading: SR[7] during a bit step (40_transport R69); when idle a free value (R71), drawn anew in every cycle, for
`cycle` moves the draw counter on. DESIGN CHOICE (log 8). -/
def timedMosi (t : Timed) : Level := if t.core.bc ≠ 0 then t.core.sr.getLsbD 7 else Config.idleMosi t.core.tick

/-- The F_SYS cycles a byte occupies on the bus (40_transport R70). -/
def byteCycles (c : Config) : Nat := 8 * divider c

/-- The shifting cycles a micro-program takes at least (70_reset R137). -/
def shiftCycles (c : Config) (prog : List MicroOp) : Nat := countBytes prog * byteCycles c

/-- The milliseconds of delay INIT takes at least (70_reset R138). -/
def initDelayMs (c : Config) : Nat :=
  c.tRstPreMs + c.tRstLowMs + c.tRstPostMs + (c.initTable.map InitEntry.postDelayMs).sum + c.tSlpoutMs + c.tDisponMs

end Sys2Proof.Machine
end

