-- ==== Sys2Proof/Safety.lean ====
section
/-! DEFINITION. What counts as a good state, a good end and a well-framed micro-program, in the terms the statements use. -/

namespace Sys2Proof

open Sys2Proof.Machine

/-- The phase fits the micro-operation it is a phase of (10_state R23). -/
def phaseFits : SeqPhase → Option MicroOp → Bool
  | .ready, some _ => true
  | .waitPre, some (.byte _) => true
  | .waitPost, some (.byte _) => true
  | .delaying, some (.delay _) => true
  | _, _ => false

/-- The panel states the block can rest in (95_test_vectors V-D1: "With BUSY = 0 PSTATE is always 0 or 4"). -/
def restingPanel (p : PanelState) : Bool := decide (p = .unpowered) || decide (p = .active)

/-- The invariant of the machine. -/
structure Inv (s : State) : Prop where
  /-- the configuration is valid (70_reset R129) -/
  cfgValid : s.cfg.valid = true
  /-- BC is 0 to 8 (10_state R24) -/
  bcRange : s.bc ≤ 8
  /-- WAIT_CNT is 0 to BUSY_WAIT_LIMIT (10_state R23) -/
  waitRange : s.waitCnt ≤ s.cfg.busyWaitLimit
  /-- BL keeps BL_LEVEL (40_transport R75) -/
  blHeld : s.lBl = s.cfg.blLevel
  /-- SCK is HIGH between bit steps (40_transport R69) -/
  sckIdle : s.sck = HIGH
  /-- between operations MPROG is empty, SEQ_PC is 0 and SEQ_PHASE is IDLE (10_state R22, R23) -/
  restSeq : s.busy = false → s.mprog = [] ∧ s.seqPc = 0 ∧ s.seqPhase = .idle
  /-- while BUSY = 1 SEQ_PC points at a micro-operation the phase fits (10_state R22, R23) -/
  runSeq : s.busy = true → phaseFits s.seqPhase (currentOp s) = true
  /-- a DELAY in progress has cycles left (40_transport R81) -/
  delayLeft : s.seqPhase = .delaying → 0 < s.dlyCnt
  /-- MPROG holds only what the block builds (40_transport R75, R81; 42_panel_init R89) -/
  progBuilt : s.mprog.all MicroOp.built = true
  /-- the rest of MPROG ends in a panel state the block can rest in -/
  panelEnds : restingPanel (finalPanel s.pstate (s.mprog.drop s.seqPc)) = true

/-- As long as no wait has been abandoned, a byte is in the shifter only during the POST wait of its own BYTE
(20_memory R46, 40_transport R78). -/
def Quiet (s : State) : Prop := s.timeout = false → s.bc ≠ 0 → s.busy = true ∧ s.seqPhase = .waitPost

/-- The run has ended (20_memory R48): the host has nothing left, BUSY = 0 and SBUSY = 0. -/
def runEnded (s : State) : Bool := s.hostQueue.isEmpty && !s.busy && !sbusy s

/-- A good end: the run has ended with no fault and no timeout recorded (20_memory R48, 60_exceptions R121). -/
def goodEnd (s : State) : Bool := runEnded s && !faulted s && !s.timeout

/-- The next operation of the host is not a block reset. -/
def noResetNext (s : State) : Bool := decide (s.hostQueue.head? ≠ some .reset)

/-- The operation of the host is neither a submission nor a block reset: a read, a WAITIDLE, or a write to OPW1, OPW2 or STATUS. -/
def passiveOp : HostOp → Bool
  | .read _ _ => true
  | .write off _ _ => decide (off.extractLsb' 2 2 ≠ 0)
  | .waitIdle => true
  | .reset => false

/-- The 21 micro-operations of a window that is not empty, written out from 43_raster R100, R101 and 41_framer R82, R84:
columns x0 to xe, rows y0 to ye, both ends inclusive. -/
def windowMicroOps (c : Config) (x0 xe y0 ye : Nat) : List MicroOp :=
  [.line .cs LOW, .line .dc LOW, .byte c.opCaset, .line .dc HIGH,
    .byte 0x00, .byte (BitVec.ofNat 8 x0), .byte 0x00, .byte (BitVec.ofNat 8 xe), .line .cs HIGH,
   .line .cs LOW, .line .dc LOW, .byte c.opRaset, .line .dc HIGH,
    .byte 0x00, .byte (BitVec.ofNat 8 y0), .byte 0x00, .byte (BitVec.ofNat 8 ye), .line .cs HIGH,
   .line .cs LOW, .line .dc LOW, .byte c.opRamwr]

/-- n pixels of a colour, the high byte of each first (43_raster R104). -/
def solidPixels (n : Nat) (color : Half) : List MicroOp :=
  (List.replicate n [MicroOp.byte (color.extractLsb' 8 8), MicroOp.byte (color.extractLsb' 0 8)]).flatten

/-- The events of one INIT_TABLE entry (42_panel_init R90, 41_framer R84). -/
def entryEvents (e : InitEntry) : List Event :=
  [.line .cs LOW, .line .dc LOW, .byte e.opcode LOW LOW, .line .dc HIGH]
    ++ e.params.map (fun b => Event.byte b LOW HIGH) ++ [.line .cs HIGH]
    ++ (if 0 < e.postDelayMs then [.delay (1000 * e.postDelayMs)] else [])

/-- The events of a closed frame of one command byte (41_framer R84). -/
def commandEvents (op : Byte) : List Event :=
  [.line .cs LOW, .line .dc LOW, .byte op LOW LOW, .line .dc HIGH, .line .cs HIGH]

/-- Where a micro-program stands in a frame (30_encoding R62, 41_framer R85, R87). -/
inductive FrameAt where
  /-- no frame is open -/
  | closed
  /-- CS has been driven LOW and nothing else yet -/
  | selected
  /-- DC has been driven LOW for the command byte -/
  | commandMode
  /-- the command byte has been sent; the frame is open -/
  | commandSent
  /-- DC has been driven HIGH for data bytes -/
  | dataMode
  deriving DecidableEq, Repr

/-- One micro-operation in a frame; none where it breaks the frame discipline: a frame opens with CS going LOW, begins with one
command byte sent with DC LOW, goes on with data bytes sent with DC HIGH, and closes with CS going HIGH (30_encoding R62,
41_framer R87). The reset line, delays and panel states may stand only where no byte of a frame is being sent. -/
def frameStep : FrameAt → MicroOp → Option FrameAt
  | .closed, .line .cs false => some .selected
  | .commandSent, .line .cs false => some .selected
  | .selected, .line .dc false => some .commandMode
  | .commandMode, .byte _ => some .commandSent
  | .commandSent, .line .dc true => some .dataMode
  | .dataMode, .byte _ => some .dataMode
  | .dataMode, .line .cs true => some .closed
  | .closed, .line .rst _ => some .closed
  | .commandSent, .line .rst _ => some .commandSent
  | .closed, .delay _ => some .closed
  | .commandSent, .delay _ => some .commandSent
  | .closed, .state _ => some .closed
  | .commandSent, .state _ => some .commandSent
  | _, _ => none

/-- A list of micro-operations in a frame. -/
def frameRun (st : FrameAt) : List MicroOp → Option FrameAt
  | [] => some st
  | op :: rest =>
    match frameStep st op with
    | some st' => frameRun st' rest
    | none => none

/-- In the timed reading a byte in the shifter is in its POST wait, and the polls made are the cycles it has been shifting
(40_transport R77). -/
def TimedQuiet (t : Timed) : Prop :=
  t.core.bc ≠ 0 →
    t.core.busy = true ∧ t.core.seqPhase = .waitPost ∧ t.sub < divider t.core.cfg
      ∧ t.core.waitCnt + (t.core.bc * divider t.core.cfg - t.sub) = byteCycles t.core.cfg

end Sys2Proof
end

