-- ==== Sys2Proof/Certificates/Slice0/Obligations.lean ====
section
/-! DEFINITION. The statements about the machine. The rules are the spec's; where a statement rests on a choice of the
model its docstring names the log entry. -/

open Sys2Proof Sys2Proof.Machine

/-! ### Reset -/

/-- 70_reset R127: the state after block reset, under every configuration and every draw. The levels and SR that the spec leaves open
are the model's free values (log 8, 9, 10). -/
def Obligations.ResetLeavesStatedValues : Prop :=
  ∀ (c : Config) (n : Nat),
    (State.resetAt c n).pstate = .unpowered ∧ (State.resetAt c n).busy = false
    ∧ (State.resetAt c n).fIllegal = false ∧ (State.resetAt c n).fUbi = false
    ∧ (State.resetAt c n).fOverlap = false ∧ (State.resetAt c n).timeout = false
    ∧ (State.resetAt c n).lastCause = .none ∧ (State.resetAt c n).timeoutCount = 0
    ∧ csOpen (State.resetAt c n) = !Config.initCs n
    ∧ (statusWord (State.resetAt c n)).extractLsb' 12 4 = 0
    ∧ (State.resetAt c n).opw0 = 0 ∧ (State.resetAt c n).opw1 = 0 ∧ (State.resetAt c n).opw2 = 0
    ∧ (State.resetAt c n).latch = none ∧ (State.resetAt c n).mprog = [] ∧ (State.resetAt c n).seqPc = 0
    ∧ (State.resetAt c n).seqPhase = .idle ∧ (State.resetAt c n).waitCnt = 0 ∧ (State.resetAt c n).dlyCnt = 0
    ∧ (State.resetAt c n).sr = Config.resetSr n ∧ (State.resetAt c n).bc = 0 ∧ sbusy (State.resetAt c n) = false
    ∧ (State.resetAt c n).lRst = Config.initRst n ∧ (State.resetAt c n).lCs = Config.initCs n
    ∧ (State.resetAt c n).lDc = Config.initDc n ∧ (State.resetAt c n).lBl = c.blLevel
    ∧ (∀ l : Line, pin (State.resetAt c n) l = (lineLevel (State.resetAt c n) l ^^ c.inv))
    ∧ (State.resetAt c n).sck = HIGH ∧ pinMosi (State.resetAt c n) = Config.idleMosi n
    ∧ (State.resetAt c n).trace = []
    ∧ State.reset = State.resetAt Config.thisHardware 0

/-- 70_reset R127, R129: the invariant holds after every block reset under a valid configuration, and this hardware's is valid. -/
def Obligations.ResetMeetsInvariant : Prop :=
  (∀ (c : Config) (n : Nat), c.valid = true → Inv (State.resetAt c n)) ∧ Inv State.reset

/-- 70_reset R126: block reset stops everything at once, whatever runs; the host's own queue and reads stay (log 11). -/
def Obligations.BlockResetStopsEverything : Prop :=
  ∀ (s : State) (rest : List HostOp), s.hostQueue = .reset :: rest →
    hostStep s = .next { State.resetAt s.cfg s.tick with hostQueue := rest, hostReads := s.hostReads }

/-! ### The step -/

/-- One step is one step of the agent whose turn it is (20_memory R37), taken after the draw counter moved on (log 4, 20);
under an invalid configuration it is refused (70_reset R129, log 14). -/
def Obligations.StepIsOneAgentsStep : Prop :=
  ∀ s : State,
    (s.cfg.valid = true → step s = agentStep (pickAgent s) { s with tick := s.tick + 1 })
    ∧ (s.cfg.valid = false → step s = .refused .invalidConfiguration)
    ∧ (∀ a : Agent, pickAgent s = some a → a ∈ enabledAgents s)
    ∧ (pickAgent s = none ↔ s.bc = 0 ∧ s.busy = false ∧ s.hostQueue = [])

/-- 30_encoding R52: the write of OPW0 runs the operation its descriptor decodes to, in the same step. -/
def Obligations.StepRunsSubmittedOperation : Prop :=
  ∀ (s : State) (v : Word32) (rest : List HostOp) (i : Instr),
    s.cfg.valid = true → pickAgent s = some .host → s.hostQueue = .write 0 4 v :: rest →
    decodeDescriptor ⟨v, s.opw1, s.opw2⟩ = some i →
    step s = exec i { s with opw0 := v, hostQueue := rest, tick := s.tick + 1 }

/-- 30_encoding R56, R62: a BYTE about to start with CS LOW and DC LOW whose byte is a named command runs that command. -/
def Obligations.StepRunsWireCommand : Prop :=
  ∀ (s : State) (b : Byte) (i : Instr),
    s.cfg.valid = true → pickAgent s = some .sequencer → s.seqPhase = .ready → currentOp s = some (.byte b) →
    s.lCs = LOW → s.lDc = LOW → decodeWire s.cfg b = some i →
    step s = exec i { s with tick := s.tick + 1 }

/-- 60_exceptions R110: no instruction stops the block; every one answers a next state in every state. -/
def Obligations.EveryInstructionAnswersNext : Prop :=
  ∀ (i : Instr) (s : State), ∃ t : State, exec i s = .next t

/-! ### Encoding -/

/-- Words written out from 30_encoding R63 and R66, with the reserved ones of R66. -/
def Obligations.SpecWordsDecode : Prop :=
  decodeDescriptor ⟨0x00000001, 0, 0⟩ = some .init
  ∧ decodeDescriptor ⟨0x00000002, 0x00000000, 0x00F000F0⟩ = some (.setwin 0 0 240 240)
  ∧ decodeDescriptor ⟨0x07E00003, 0x0014000A, 0x0017000C⟩ = some (.fill 10 20 12 23 0x07E0)
  ∧ decodeDescriptor ⟨0xF8000004, 0, 0⟩ = some (.fillscr 0xF800)
  ∧ decodeDescriptor ⟨0x00000010, 0, 0⟩ = none
  ∧ decodeDescriptor ⟨0x00000013, 0, 0⟩ = none
  ∧ decodeTableWord 8 0x2A = some .caset ∧ decodeTableWord 8 0x11 = some .slpout

/-- 30_encoding R50, R51, R53, R63: decode of encode, for every well-formed instruction at every value of its operands. -/
def Obligations.DecodeOfEncode : Prop :=
  ∀ (c : Config) (i : Instr), i.wellFormed c = true → decode c (encode c i) = some i

/-- 30_encoding R54, R65: exactly the reserved descriptors decode to nothing. -/
def Obligations.ReservedDescriptorsExactly : Prop :=
  ∀ d : Descriptor,
    decodeDescriptor d = none ↔
      d.opw0.extractLsb' 4 12 ≠ 0
      ∨ (d.opw0.extractLsb' 0 4 ≠ 1 ∧ d.opw0.extractLsb' 0 4 ≠ 2 ∧ d.opw0.extractLsb' 0 4 ≠ 3
          ∧ d.opw0.extractLsb' 0 4 ≠ 4)

/-- 30_encoding R50, R51, R53: each operation code decodes to its operation with the fields at their bits, whatever the fields it
does not use hold; and a FILL uses every bit, so encoding what a FILL descriptor decodes to gives the descriptor back. -/
def Obligations.IgnoredFieldsDoNotMatter : Prop :=
  (∀ (color : Half) (a b : Word32),
    decodeDescriptor ⟨packOpw0 color 0x1, a, b⟩ = some .init
    ∧ decodeDescriptor ⟨packOpw0 color 0x2, a, b⟩
        = some (.setwin (a.extractLsb' 0 16) (a.extractLsb' 16 16) (b.extractLsb' 0 16) (b.extractLsb' 16 16))
    ∧ decodeDescriptor ⟨packOpw0 color 0x3, a, b⟩
        = some (.fill (a.extractLsb' 0 16) (a.extractLsb' 16 16) (b.extractLsb' 0 16) (b.extractLsb' 16 16) color)
    ∧ decodeDescriptor ⟨packOpw0 color 0x4, a, b⟩ = some (.fillscr color))
  ∧ (∀ (c : Config) (d : Descriptor) (x0 y0 x1 y1 color : Half),
    decodeDescriptor d = some (.fill x0 y0 x1 y1 color) → encode c (.fill x0 y0 x1 y1 color) = .descriptor d)

/-- 30_encoding R58, R59: what the assembler writes decodes to the statement's operation. FILL and SETWIN write OPW1, OPW2 and then
OPW0; INIT, FILLSCR and CLEAR write OPW0 alone, and decode alike whatever OPW1 and OPW2 hold; WAITIDLE is the host's poll (log 12).
An operand out of range is refused, and FILLPX at the edge of the operand range. -/
def Obligations.AssembledDescriptorsDecode : Prop :=
  ∀ x0 y0 x1 y1 color : Nat,
    (x0 < 65536 → y0 < 65536 → x1 < 65536 → y1 < 65536 → color < 65536 →
      (∃ a b v : Word32,
        assemble (.fill x0 y0 x1 y1 color) = some [.write 4 4 a, .write 8 4 b, .write 0 4 v]
        ∧ decodeDescriptor ⟨v, a, b⟩ = some (.fill (BitVec.ofNat 16 x0) (BitVec.ofNat 16 y0)
            (BitVec.ofNat 16 x1) (BitVec.ofNat 16 y1) (BitVec.ofNat 16 color)))
      ∧ (∃ a b v : Word32,
        assemble (.setwin x0 y0 x1 y1) = some [.write 4 4 a, .write 8 4 b, .write 0 4 v]
        ∧ decodeDescriptor ⟨v, a, b⟩ = some (.setwin (BitVec.ofNat 16 x0) (BitVec.ofNat 16 y0)
            (BitVec.ofNat 16 x1) (BitVec.ofNat 16 y1))))
    ∧ (∃ v : Word32, assemble .init = some [.write 0 4 v]
        ∧ ∀ a b : Word32, decodeDescriptor ⟨v, a, b⟩ = some .init)
    ∧ (color < 65536 → ∃ v : Word32, assemble (.fillscr color) = some [.write 0 4 v]
        ∧ ∀ a b : Word32, decodeDescriptor ⟨v, a, b⟩ = some (.fillscr (BitVec.ofNat 16 color)))
    ∧ (∃ v : Word32, assemble .clear = some [.write 0 4 v]
        ∧ ∀ a b : Word32, decodeDescriptor ⟨v, a, b⟩ = some (.fillscr 0x0000))
    ∧ assemble .waitIdle = some [.waitIdle]
    ∧ (65536 ≤ x0 ∨ 65536 ≤ y0 ∨ 65536 ≤ x1 ∨ 65536 ≤ y1 →
        assemble (.setwin x0 y0 x1 y1) = none ∧ assemble (.fill x0 y0 x1 y1 color) = none)
    ∧ (65536 ≤ color → assemble (.fill x0 y0 x1 y1 color) = none ∧ assemble (.fillscr color) = none)
    ∧ assemble (.fillPx x0 y0 color) = assemble (.fill x0 y0 (x0 + 1) (y0 + 1) color)
    ∧ assemble (.fillPx 65535 y0 color) = none ∧ assemble (.fillPx x0 65535 color) = none

/-! ### Submission -/

/-- 42_panel_init R91 (INIT accepted in every PSTATE), 30_encoding R52: what acceptance writes, and that it writes nothing
else. -/
def Obligations.InitAccepted : Prop :=
  ∀ s : State, s.busy = false →
    exec .init s = .next { s with
      latch := some ⟨s.opw0, s.opw1, s.opw2⟩, mprog := initProgram s.cfg, seqPc := 0, busy := true, seqPhase := .ready }

/-- 43_raster R100, R101: a SETWIN of a window that is not empty is accepted with the 21 micro-operations of its window. -/
def Obligations.SetwinAccepted : Prop :=
  ∀ (s : State) (x0 y0 x1 y1 : Half), s.busy = false → s.pstate = .active →
    x0.toNat < min x1.toNat s.cfg.width → y0.toNat < min y1.toNat s.cfg.height →
    exec (.setwin x0 y0 x1 y1) s = .next { s with
      latch := some ⟨s.opw0, s.opw1, s.opw2⟩
      mprog := windowMicroOps s.cfg x0.toNat (min x1.toNat s.cfg.width - 1) y0.toNat (min y1.toNat s.cfg.height - 1)
      seqPc := 0, busy := true, seqPhase := .ready }

/-- 43_raster R104, R105: a FILL of a rectangle that is not empty is accepted with its window, then DC HIGH, then two bytes for
each of its pixels, then CS HIGH. -/
def Obligations.FillAccepted : Prop :=
  ∀ (s : State) (x0 y0 x1 y1 color : Half), s.busy = false → s.pstate = .active →
    x0.toNat < min x1.toNat s.cfg.width → y0.toNat < min y1.toNat s.cfg.height →
    exec (.fill x0 y0 x1 y1 color) s = .next { s with
      latch := some ⟨s.opw0, s.opw1, s.opw2⟩
      mprog :=
        windowMicroOps s.cfg x0.toNat (min x1.toNat s.cfg.width - 1) y0.toNat (min y1.toNat s.cfg.height - 1)
        ++ [.line .dc HIGH]
        ++ solidPixels ((min x1.toNat s.cfg.width - x0.toNat) * (min y1.toNat s.cfg.height - y0.toNat)) color
        ++ [.line .cs HIGH]
      seqPc := 0, busy := true, seqPhase := .ready }

/-- 43_raster R106: FILLSCR is accepted with the whole panel's fill. -/
def Obligations.FillscrAccepted : Prop :=
  ∀ (s : State) (color : Half), s.busy = false → s.pstate = .active → s.cfg.valid = true →
    exec (.fillscr color) s = .next { s with
      latch := some ⟨s.opw0, s.opw1, s.opw2⟩
      mprog :=
        windowMicroOps s.cfg 0 (s.cfg.width - 1) 0 (s.cfg.height - 1)
        ++ [.line .dc HIGH] ++ solidPixels (s.cfg.width * s.cfg.height) color ++ [.line .cs HIGH]
      seqPc := 0, busy := true, seqPhase := .ready }

/-- 43_raster R99, R101, R104, 60_exceptions R113: an empty rectangle is accepted and completes in the same step; it records no
fault. -/
def Obligations.EmptyRasterCompletesAtOnce : Prop :=
  ∀ (s : State) (x0 y0 x1 y1 color : Half), s.busy = false → s.pstate = .active →
    (min x1.toNat s.cfg.width ≤ x0.toNat ∨ min y1.toNat s.cfg.height ≤ y0.toNat) →
    exec (.setwin x0 y0 x1 y1) s = .next { s with
        latch := some ⟨s.opw0, s.opw1, s.opw2⟩, mprog := [], seqPc := 0, busy := false, seqPhase := .idle }
    ∧ exec (.fill x0 y0 x1 y1 color) s = .next { s with
        latch := some ⟨s.opw0, s.opw1, s.opw2⟩, mprog := [], seqPc := 0, busy := false, seqPhase := .idle }

/-- 30_encoding R55: the accepted micro-program is Expand of the latched descriptor and the configuration. -/
def Obligations.AcceptedProgramIsExpandOfLatch : Prop :=
  ∀ (s : State) (i : Instr), s.busy = false → decodeDescriptor ⟨s.opw0, s.opw1, s.opw2⟩ = some i →
    (i = .init ∨ s.pstate = .active) →
    ∃ t : State, exec i s = .next t
      ∧ t.latch = some ⟨s.opw0, s.opw1, s.opw2⟩
      ∧ t.mprog = expand s.cfg ⟨s.opw0, s.opw1, s.opw2⟩
      ∧ (t.busy = true ↔ expand s.cfg ⟨s.opw0, s.opw1, s.opw2⟩ ≠ [])

/-- 43_raster R106: FILLSCR color is FILL 0, 0, W, H, color. -/
def Obligations.FillscrIsFillOfThePanel : Prop :=
  ∀ (s : State) (color : Half), s.cfg.valid = true →
    exec (.fillscr color) s
      = exec (.fill 0 0 (BitVec.ofNat 16 s.cfg.width) (BitVec.ofNat 16 s.cfg.height) color) s

/-- 43_raster R99, R108: ends beyond the panel do what the panel's own ends do; on the 240 × 240 panel the two fills of R108. -/
def Obligations.ClampLaws : Prop :=
  ∀ (s : State) (x0 y0 x1 y1 x1' y1' color : Half),
    (min x1.toNat s.cfg.width = min x1'.toNat s.cfg.width →
      min y1.toNat s.cfg.height = min y1'.toNat s.cfg.height →
      exec (.fill x0 y0 x1 y1 color) s = exec (.fill x0 y0 x1' y1' color) s
      ∧ exec (.setwin x0 y0 x1 y1) s = exec (.setwin x0 y0 x1' y1') s)
    ∧ (s.cfg.width = 240 → s.cfg.height = 240 →
      exec (.fill 0 0 300 300 color) s = exec (.fill 0 0 240 240 color) s
      ∧ fillProgram s.cfg 250 0 260 10 color = [])

/-- 60_exceptions R116: a write to OPW0 while BUSY = 1, whatever its value, records OVERLAP and disturbs nothing. -/
def Obligations.OverlapRecorded : Prop :=
  (∀ (s : State) (v : Word32) (rest : List HostOp), s.busy = true → s.hostQueue = .write 0 4 v :: rest →
    hostStep s = .next { s with opw0 := v, fOverlap := true, lastCause := .overlap, hostQueue := rest })
  ∧ (∀ (s : State) (i : Instr), s.busy = true → i.isHost = true →
    exec i s = .next { s with fOverlap := true, lastCause := .overlap })

/-- 60_exceptions R114: a reserved descriptor written while BUSY = 0 records ILLEGAL, whatever PSTATE is (R119), and is not
executed. -/
def Obligations.IllegalRecorded : Prop :=
  ∀ (s : State) (v : Word32) (rest : List HostOp), s.busy = false → s.hostQueue = .write 0 4 v :: rest →
    (v.extractLsb' 4 12 ≠ 0
      ∨ (v.extractLsb' 0 4 ≠ 1 ∧ v.extractLsb' 0 4 ≠ 2 ∧ v.extractLsb' 0 4 ≠ 3 ∧ v.extractLsb' 0 4 ≠ 4)) →
    hostStep s = .next { s with opw0 := v, fIllegal := true, lastCause := .illegal, hostQueue := rest }

/-- 60_exceptions R115: a write to OPW0 while BUSY = 0 whose OPC is SETWIN, FILL or FILLSCR, while PSTATE is not Active, records
UBI and is not executed; and so does each of the three operations executed there. -/
def Obligations.UseBeforeInitRecorded : Prop :=
  (∀ (s : State) (v : Word32) (rest : List HostOp), s.busy = false → s.pstate ≠ .active →
    s.hostQueue = .write 0 4 v :: rest → v.extractLsb' 4 12 = 0 →
    (v.extractLsb' 0 4 = 2 ∨ v.extractLsb' 0 4 = 3 ∨ v.extractLsb' 0 4 = 4) →
    hostStep s = .next { s with opw0 := v, fUbi := true, lastCause := .ubi, hostQueue := rest })
  ∧ (∀ (s : State) (x0 y0 x1 y1 color : Half), s.busy = false → s.pstate ≠ .active →
    exec (.setwin x0 y0 x1 y1) s = .next { s with fUbi := true, lastCause := .ubi }
    ∧ exec (.fill x0 y0 x1 y1 color) s = .next { s with fUbi := true, lastCause := .ubi }
    ∧ exec (.fillscr color) s = .next { s with fUbi := true, lastCause := .ubi })

/-! ### The host's registers -/

/-- 20_memory R31, R34, 10_state R20: a read gives the register's value and changes nothing of the block; that the value is appended
to the host's reads is the model's form (log 3). -/
def Obligations.HostReadsGiveTheRegister : Prop :=
  ∀ (s : State) (rest : List HostOp),
    (s.hostQueue = .read 0 4 :: rest →
      hostStep s = .next { s with hostReads := s.hostReads ++ [s.opw0], hostQueue := rest })
    ∧ (s.hostQueue = .read 4 4 :: rest →
      hostStep s = .next { s with hostReads := s.hostReads ++ [s.opw1], hostQueue := rest })
    ∧ (s.hostQueue = .read 8 4 :: rest →
      hostStep s = .next { s with hostReads := s.hostReads ++ [s.opw2], hostQueue := rest })
    ∧ (s.hostQueue = .read 12 4 :: rest →
      hostStep s = .next { s with hostReads := s.hostReads ++ [statusWord s], hostQueue := rest })

/-- 20_memory R34, R36, 10_state R20: a write to OPW1 or OPW2 only stores; a write to STATUS is ignored. -/
def Obligations.HostWritesOnlyStore : Prop :=
  ∀ (s : State) (v : Word32) (rest : List HostOp),
    (s.hostQueue = .write 4 4 v :: rest → hostStep s = .next { s with opw1 := v, hostQueue := rest })
    ∧ (s.hostQueue = .write 8 4 v :: rest → hostStep s = .next { s with opw2 := v, hostQueue := rest })
    ∧ (s.hostQueue = .write 12 4 v :: rest → hostStep s = .next { s with hostQueue := rest })

/-- 20_memory R32: an access of another width, or misaligned, is refused. -/
def Obligations.UndefinedAccessesRefused : Prop :=
  ∀ (s : State) (off : BitVec 4) (size : Nat) (v : Word32) (rest : List HostOp),
    s.hostQueue = .read off size :: rest ∨ s.hostQueue = .write off size v :: rest →
    (size ≠ 4 → hostStep s = .refused .accessWidth)
    ∧ (size = 4 → off.extractLsb' 0 2 ≠ 0 → hostStep s = .refused .misaligned)

/-- 30_encoding R59: WAITIDLE reads STATUS and goes on only when it finds BUSY = 0 (log 12). -/
def Obligations.WaitIdlePollsBusy : Prop :=
  ∀ (s : State) (rest : List HostOp), s.hostQueue = .waitIdle :: rest →
    hostStep s = .next { s with
      hostReads := s.hostReads ++ [statusWord s]
      hostQueue := if s.busy = true then .waitIdle :: rest else rest }

/-- 10_state R12, R14, R15, R16, 60_exceptions R112: every field of STATUS stands at its bits with its codes, the reserved bits read as
zero. -/
def Obligations.StatusFieldsAtTheirBits : Prop :=
  ∀ s : State,
    (s.pstate = .unpowered → (statusWord s).extractLsb' 0 3 = 0)
    ∧ (s.pstate = .resetting → (statusWord s).extractLsb' 0 3 = 1)
    ∧ (s.pstate = .configuring → (statusWord s).extractLsb' 0 3 = 2)
    ∧ (s.pstate = .sleeping → (statusWord s).extractLsb' 0 3 = 3)
    ∧ (s.pstate = .active → (statusWord s).extractLsb' 0 3 = 4)
    ∧ (statusWord s).getLsbD 3 = s.busy
    ∧ (statusWord s).getLsbD 4 = !s.lCs
    ∧ (statusWord s).getLsbD 5 = s.fIllegal
    ∧ (statusWord s).getLsbD 6 = s.fUbi
    ∧ (statusWord s).getLsbD 7 = s.fOverlap
    ∧ (statusWord s).getLsbD 8 = s.timeout
    ∧ (s.lastCause = .none → (statusWord s).extractLsb' 9 3 = 0)
    ∧ (s.lastCause = .illegal → (statusWord s).extractLsb' 9 3 = 1)
    ∧ (s.lastCause = .ubi → (statusWord s).extractLsb' 9 3 = 2)
    ∧ (s.lastCause = .overlap → (statusWord s).extractLsb' 9 3 = 3)
    ∧ (s.lastCause = .timeout → (statusWord s).extractLsb' 9 3 = 4)
    ∧ (statusWord s).extractLsb' 12 4 = 0
    ∧ (statusWord s).extractLsb' 16 16 = s.timeoutCount

/-- 10_state R21, 20_memory R39: while an operation runs no host access but block reset changes more than OPW0 to OPW2, F_OVERLAP
and LAST_CAUSE (and the host's own queue and reads, log 3). -/
def Obligations.HostCannotDisturbRunningOperation : Prop :=
  ∀ s t : State, s.busy = true → noResetNext s = true → hostStep s = .next t →
    t = { s with
      opw0 := t.opw0, opw1 := t.opw1, opw2 := t.opw2, fOverlap := t.fOverlap, lastCause := t.lastCause
      hostQueue := t.hostQueue, hostReads := t.hostReads }

/-! ### The micro-operations -/

/-- 10_state R22, 30_encoding R56: completing a micro-operation advances SEQ_PC by 1 to READY, and at the end of MPROG completes
the operation; LATCH keeps its value. -/
def Obligations.MicroOperationCompletes : Prop :=
  ∀ s : State,
    (s.seqPc + 1 < s.mprog.length → microDone s = { s with seqPc := s.seqPc + 1, seqPhase := .ready })
    ∧ (s.mprog.length ≤ s.seqPc + 1 →
      microDone s = { s with busy := false, mprog := [], seqPc := 0, seqPhase := .idle })

/-- 40_transport R74, R75: LINE(l, v) sets that line's level and no other, emits Line(l, v), completes at once, and the pin then
shows v XOR INV. -/
def Obligations.LineDrivesOneLine : Prop :=
  ∀ (s : State) (l : Line) (v : Level), s.seqPhase = .ready → currentOp s = some (.line l v) →
    sequencerStep s = .next (microDone { s with
      lRst := if l = .rst then v else s.lRst
      lCs := if l = .cs then v else s.lCs
      lDc := if l = .dc then v else s.lDc
      lBl := if l = .bl then v else s.lBl
      trace := s.trace ++ [.line l v] })
    ∧ (∀ t : State, sequencerStep s = .next t → pin t l = (v ^^ s.cfg.inv))

/-- 42_panel_init R89: STATE(p) sets PSTATE, completes at once and emits no event. -/
def Obligations.StateSetsPanelState : Prop :=
  ∀ (s : State) (p : PanelState), s.seqPhase = .ready → currentOp s = some (.state p) →
    sequencerStep s = .next (microDone { s with pstate := p })

/-- 40_transport R81: in the untimed reading DELAY(us) emits Delay(us) and completes in one step, with DLY_CNT counted down. -/
def Obligations.DelayCompletesInOneStep : Prop :=
  ∀ (s : State) (us : Nat), s.seqPhase = .ready → currentOp s = some (.delay us) →
    sequencerStep s = .next (microDone { s with trace := s.trace ++ [.delay us], dlyCnt := 0 })

/-- 40_transport R81: in the timed reading DELAY(us) loads DLY_CNT with ceil(us · F_SYS / 1 000 000), the least number of cycles
that is not less, and completes after exactly that many further cycles; the cycle that loads it is the model's (log 5), and so is
the draw counter that every cycle moves on (log 20). -/
def Obligations.TimedDelayLastsItsCycles : Prop :=
  ∀ (s : State) (us : Nat), s.busy = true → s.bc = 0 → s.seqPhase = .ready → currentOp s = some (.delay us) →
    ∃ n : Nat, us * s.cfg.fSys ≤ n * 1000000 ∧ (∀ m : Nat, us * s.cfg.fSys ≤ m * 1000000 → n ≤ m)
      ∧ cycles (n + 1) ⟨s, 0⟩
          = ⟨microDone { s with trace := s.trace ++ [.delay us], dlyCnt := 0, tick := s.tick + (n + 1) }, 0⟩
      ∧ ∀ k : Nat, k < n → cycles (k + 1) ⟨s, 0⟩
          = ⟨{ s with
              trace := s.trace ++ [.delay us], seqPhase := .delaying, dlyCnt := n - k, tick := s.tick + (k + 1) }, 0⟩

/-- 40_transport R76, R78, R79: the first step of BYTE(b), for every byte, a named command or not. With SBUSY = 0 it issues the byte:
the event with the levels of CS and DC, the shifter loaded, the POST wait begun. With SBUSY = 1 (after an abandoned POST wait) it
begins the PRE wait with one poll counted, or, where the draw abandons that wait or the limit is 0, records the timeout and issues
over the byte in flight. That the PRE wait's first poll and the issue are in this step is the model's granularity, and the draw its
free value (log 5, 6, 7). -/
def Obligations.ByteIssues : Prop :=
  ∀ (s : State) (b : Byte), s.seqPhase = .ready → currentOp s = some (.byte b) →
    (s.bc = 0 → sequencerStep s = .next { s with
      sr := b, bc := 8, seqPhase := .waitPost, waitCnt := 0, trace := s.trace ++ [.byte b s.lCs s.lDc] })
    ∧ (s.bc ≠ 0 → sequencerStep s = .next
        (if s.cfg.busyWaitLimit = 0 ∨ Config.waitAbandoned s.tick = true then
          { s with
            timeout := true
            timeoutCount := if s.timeoutCount = 0xFFFF then 0xFFFF else s.timeoutCount + 1
            lastCause := .timeout
            sr := b, bc := 8, seqPhase := .waitPost, waitCnt := 0
            trace := s.trace ++ [.timeout .pre, .byte b s.lCs s.lDc] }
         else { s with seqPhase := .waitPre, waitCnt := 1 }))

/-- 40_transport R76, R78, R79: a POST wait is satisfied where SBUSY = 0; else it is abandoned, and the timeout recorded, where
WAIT_CNT has reached BUSY_WAIT_LIMIT or the draw says so; else one more poll is counted (log 6). -/
def Obligations.PostWaitPolls : Prop :=
  ∀ (s : State) (b : Byte), s.seqPhase = .waitPost → currentOp s = some (.byte b) →
    (s.bc = 0 → sequencerStep s = .next (microDone s))
    ∧ (s.bc ≠ 0 → sequencerStep s = .next
        (if s.waitCnt = s.cfg.busyWaitLimit ∨ Config.waitAbandoned s.tick = true then
          microDone { s with
            timeout := true
            timeoutCount := if s.timeoutCount = 0xFFFF then 0xFFFF else s.timeoutCount + 1
            lastCause := .timeout
            trace := s.trace ++ [.timeout .post] }
         else { s with waitCnt := s.waitCnt + 1 }))

/-- 40_transport R76, R78, R79: a PRE wait the same, issuing the byte where it ends; an issue after an abandoned wait overwrites
the byte in flight (log 6, 7). -/
def Obligations.PreWaitPolls : Prop :=
  ∀ (s : State) (b : Byte), s.seqPhase = .waitPre → currentOp s = some (.byte b) →
    (s.bc = 0 → sequencerStep s = .next { s with
      sr := b, bc := 8, seqPhase := .waitPost, waitCnt := 0, trace := s.trace ++ [.byte b s.lCs s.lDc] })
    ∧ (s.bc ≠ 0 → sequencerStep s = .next
        (if s.waitCnt = s.cfg.busyWaitLimit ∨ Config.waitAbandoned s.tick = true then
          { s with
            timeout := true
            timeoutCount := if s.timeoutCount = 0xFFFF then 0xFFFF else s.timeoutCount + 1
            lastCause := .timeout
            sr := b, bc := 8, seqPhase := .waitPost, waitCnt := 0
            trace := s.trace ++ [.timeout .pre, .byte b s.lCs s.lDc] }
         else { s with waitCnt := s.waitCnt + 1 }))

/-! ### The wire commands -/

/-- 30_encoding R63, 40_transport R78: with SBUSY = 0 each wire command issues its own opcode, and nothing else of the state
changes (what executing a wire command means is the model's reading, log 15). -/
def Obligations.WireCommandsIssueTheirOpcode : Prop :=
  ∀ s : State, s.bc = 0 →
    exec .caset s = .next { s with
      sr := s.cfg.opCaset, bc := 8, seqPhase := .waitPost, waitCnt := 0
      trace := s.trace ++ [.byte s.cfg.opCaset s.lCs s.lDc] }
    ∧ exec .raset s = .next { s with
      sr := s.cfg.opRaset, bc := 8, seqPhase := .waitPost, waitCnt := 0
      trace := s.trace ++ [.byte s.cfg.opRaset s.lCs s.lDc] }
    ∧ exec .ramwr s = .next { s with
      sr := s.cfg.opRamwr, bc := 8, seqPhase := .waitPost, waitCnt := 0
      trace := s.trace ++ [.byte s.cfg.opRamwr s.lCs s.lDc] }
    ∧ exec .slpout s = .next { s with
      sr := s.cfg.opSlpout, bc := 8, seqPhase := .waitPost, waitCnt := 0
      trace := s.trace ++ [.byte s.cfg.opSlpout s.lCs s.lDc] }
    ∧ exec .dispon s = .next { s with
      sr := s.cfg.opDispon, bc := 8, seqPhase := .waitPost, waitCnt := 0
      trace := s.trace ++ [.byte s.cfg.opDispon s.lCs s.lDc] }

/-- 40_transport R76, R78: with SBUSY = 1 a wire command begins its PRE wait with one poll, or by the draw abandons it, records
the timeout and issues (log 6). -/
def Obligations.WireCommandsWaitForTheShifter : Prop :=
  ∀ (s : State) (i : Instr) (b : Byte), s.cfg.valid = true → s.bc ≠ 0 → i.isHost = false → encode s.cfg i = .wire b →
    exec i s = .next
      (if Config.waitAbandoned s.tick = true then
        { s with
          timeout := true
          timeoutCount := if s.timeoutCount = 0xFFFF then 0xFFFF else s.timeoutCount + 1
          lastCause := .timeout
          sr := b, bc := 8, seqPhase := .waitPost, waitCnt := 0
          trace := s.trace ++ [.timeout .pre, .byte b s.lCs s.lDc] }
       else { s with seqPhase := .waitPre, waitCnt := 1 })

/-! ### Shifter and clock -/

/-- 40_transport R69: one bit step, and that it touches only the shifter and the bus pins (the log of the levels driven is the
model's, log 8). -/
def Obligations.BitStepShiftsOneBit : Prop :=
  ∀ s : State, 0 < s.bc →
    agentStep (some .shifter) s = .next { s with
      sck := HIGH, mosi := s.sr.getLsbD 7, sr := s.sr <<< 1, bc := s.bc - 1
      busLog := s.busLog ++ [(LOW, s.sr.getLsbD 7), (HIGH, s.sr.getLsbD 7)] }

/-- 40_transport R68, R69, 20_memory R40: an issued byte drains in 8 bit steps, most significant bit first. -/
def Obligations.ByteShiftsOutMsbFirst : Prop :=
  ∀ s : State, s.bc = 8 →
    bitStep^[8] s = { s with
      sck := HIGH, mosi := s.sr.getLsbD 0, sr := 0, bc := 0
      busLog := s.busLog ++ [7, 6, 5, 4, 3, 2, 1, 0].flatMap
        (fun k => [(LOW, s.sr.getLsbD k), (HIGH, s.sr.getLsbD k)]) }

/-- 40_transport R67: DIV is DIV_MIN where r = floor(F_SYS / F_TARGET) is below it, and else the largest power of two not above
r, capped at DIV_MAX. -/
def Obligations.DividerIsRoundedDown : Prop :=
  ∀ c : Config,
    (c.fSys / c.fTarget < 2 → divider c = 2)
    ∧ (2 ≤ c.fSys / c.fTarget → ∃ k : Nat,
        2 ^ k ≤ c.fSys / c.fTarget ∧ c.fSys / c.fTarget < 2 ^ (k + 1) ∧ divider c = min (2 ^ k) (2 ^ c.divMaxExp))

/-- 40_transport R77: in the timed reading a configuration with BUSY_WAIT_LIMIT ≥ 8 · DIV never times out: a byte in the shifter is
always in its POST wait and the count of polls stays below the limit. -/
def Obligations.TimedReadingNeverTimesOut : Prop :=
  ∀ t : Timed, Inv t.core → TimedQuiet t → byteCycles t.core.cfg ≤ t.core.cfg.busyWaitLimit →
    Inv (cycle t).core ∧ TimedQuiet (cycle t)
    ∧ (cycle t).core.timeout = t.core.timeout ∧ (cycle t).core.timeoutCount = t.core.timeoutCount

/-! ### Micro-programs -/

/-- 42_panel_init R91, R92, R94, R95, 43_raster R90: the events of INIT, in order. -/
def Obligations.InitTraceShape : Prop :=
  ∀ (c : Config) (cs dc : Level), c.valid = true →
    microEvents cs dc (initProgram c)
      = [.line .rst HIGH] ++ (if 0 < c.tRstPreMs then [.delay (1000 * c.tRstPreMs)] else [])
        ++ [.line .rst LOW, .delay (1000 * c.tRstLowMs), .line .rst HIGH, .delay (1000 * c.tRstPostMs)]
        ++ c.initTable.flatMap entryEvents
        ++ commandEvents c.opSlpout ++ [.delay (1000 * c.tSlpoutMs)]
        ++ commandEvents c.opDispon ++ [.delay (1000 * c.tDisponMs)]

/-- 42_panel_init R91: the length of INIT's micro-program, and 70_reset R138 its total delay; 42_panel_init R88 its panel states
in order. -/
def Obligations.InitLengthAndStates : Prop :=
  ∀ c : Config, c.valid = true →
    (initProgram c).length
      = 21 + (if 0 < c.tRstPreMs then 1 else 0)
        + (c.initTable.map (fun e => 5 + e.params.length + (if 0 < e.postDelayMs then 1 else 0))).sum
    ∧ totalDelay (initProgram c) = 1000 * initDelayMs c
    ∧ panelStates (initProgram c) = [.resetting, .configuring, .sleeping, .active]

/-- 42_panel_init R90, R93: INIT sends the table's bytes in order, the unlock sub-sequence first, then sleep-out and
display-on. -/
def Obligations.InitSendsTheTableInOrder : Prop :=
  ∀ c : Config,
    bytesOf (initProgram c)
      = c.unlockTable.flatMap (fun e => e.opcode :: e.params) ++ c.restTable.flatMap (fun e => e.opcode :: e.params)
        ++ [c.opSlpout, c.opDispon]

/-- 41_framer R85, R87, 43_raster R101, R107: every micro-program keeps the frame discipline, begun with no frame open or with the
frame SETWIN left open; a SETWIN that is not empty leaves its frame open, a FILL and an INIT leave none. -/
def Obligations.ProgramsKeepFrames : Prop :=
  ∀ (c : Config) (st : FrameAt), st = .closed ∨ st = .commandSent →
    frameRun st (initProgram c) = some .closed
    ∧ (∀ x0 y0 x1 y1 : Nat, x0 < min x1 c.width → y0 < min y1 c.height →
        frameRun st (windowProgram c x0 y0 x1 y1) = some .commandSent
        ∧ ∀ color : Half, frameRun st (fillProgram c x0 y0 x1 y1 color) = some .closed)
    ∧ (∀ x0 y0 x1 y1 : Nat, min x1 c.width ≤ x0 ∨ min y1 c.height ≤ y0 →
        frameRun st (windowProgram c x0 y0 x1 y1) = some st
        ∧ ∀ color : Half, frameRun st (fillProgram c x0 y0 x1 y1 color) = some st)

/-- 43_raster R104, 30_encoding R55: a FILL that is not empty has 23 + 2N micro-operations, at most 23 + 2·W·H, and sends 11 + 2N
bytes (70_reset R137). -/
def Obligations.FillLengthAndBytes : Prop :=
  ∀ (c : Config) (x0 y0 x1 y1 : Nat) (color : Half), x0 < min x1 c.width → y0 < min y1 c.height →
    (fillProgram c x0 y0 x1 y1 color).length = 23 + 2 * ((min x1 c.width - x0) * (min y1 c.height - y0))
    ∧ (fillProgram c x0 y0 x1 y1 color).length ≤ 23 + 2 * c.width * c.height
    ∧ countBytes (fillProgram c x0 y0 x1 y1 color) = 11 + 2 * ((min x1 c.width - x0) * (min y1 c.height - y0))

/-- 43_raster R100, R105, 95_test_vectors E1, E2: what the panel is sent by a FILL: the inclusive window, then exactly N pixels. -/
def Obligations.FillPanelView : Prop :=
  ∀ (c : Config) (rst cs dc : Level) (x0 y0 x1 y1 : Nat) (color : Half), x0 < min x1 c.width → y0 < min y1 c.height →
    panelView rst (microEvents cs dc (fillProgram c x0 y0 x1 y1 color))
      = [.cmd c.opCaset, .data 0, .data (BitVec.ofNat 8 x0), .data 0, .data (BitVec.ofNat 8 (min x1 c.width - 1)),
         .cmd c.opRaset, .data 0, .data (BitVec.ofNat 8 y0), .data 0, .data (BitVec.ofNat 8 (min y1 c.height - 1)),
         .cmd c.opRamwr]
        ++ (List.replicate ((min x1 c.width - x0) * (min y1 c.height - y0))
            [PanelItem.data (color.extractLsb' 8 8), PanelItem.data (color.extractLsb' 0 8)]).flatten

/-! ### The whole machine -/

/-- 10_state R22, R23, R24, 40_transport R69, R75, 42_panel_init R88: every step keeps the invariant `Inv`. -/
def Obligations.StepKeepsInvariant : Prop :=
  ∀ s t : State, Inv s → step s = .next t → Inv t

/-- 60_exceptions R110, 10_state R22: from a state that meets the invariant the sequencer never gets out of step, so no step faults
(log 17). -/
def Obligations.InvariantStatesNeverFault : Prop :=
  ∀ (s : State) (f : Fault), Inv s → step s ≠ .fault f

/-- 10_state R17, R19: whichever agent moves, the sticky bits stay until block reset, and TIMEOUT_COUNT never falls. -/
def Obligations.StickyBitsStay : Prop :=
  ∀ (a : Option Agent) (s t : State), agentStep a s = .next t → (a = some .host → noResetNext s = true) →
    (s.fIllegal = true → t.fIllegal = true) ∧ (s.fUbi = true → t.fUbi = true)
    ∧ (s.fOverlap = true → t.fOverlap = true) ∧ (s.timeout = true → t.timeout = true)
    ∧ s.timeoutCount.toNat ≤ t.timeoutCount.toNat

/-- 10_state R13: whichever agent moves, PSTATE changes only by a STATE micro-operation, or to Unpowered by block reset. -/
def Obligations.PanelStateChangesOnlyByState : Prop :=
  ∀ (a : Option Agent) (s t : State), agentStep a s = .next t → t.pstate ≠ s.pstate →
    (a = some .sequencer ∧ s.seqPhase = .ready ∧ currentOp s = some (.state t.pstate))
    ∨ (a = some .host ∧ s.hostQueue.head? = some .reset ∧ t.pstate = .unpowered)

/-- 10_state R21, R22, 20_memory R39: while an operation runs its micro-program and LATCH stay, and SEQ_PC stays or advances by 1,
whichever agent moves. -/
def Obligations.RunningProgramIsFixed : Prop :=
  ∀ (a : Option Agent) (s t : State), agentStep a s = .next t → s.busy = true → t.busy = true →
    t.mprog = s.mprog ∧ t.latch = s.latch ∧ (t.seqPc = s.seqPc ∨ t.seqPc = s.seqPc + 1)

/-- 10_state R15, 20_memory R43: whichever agent moves, BUSY falls only when the last micro-operation completes, or by block
reset. -/
def Obligations.BusyFallsAtTheEnd : Prop :=
  ∀ (a : Option Agent) (s t : State), agentStep a s = .next t → s.busy = true → t.busy = false →
    (a = some .sequencer ∧ s.mprog.length ≤ s.seqPc + 1)
    ∨ (a = some .host ∧ s.hostQueue.head? = some .reset)

/-- 00_scope R5, 10_state R28: no step changes the configuration. -/
def Obligations.ConfigurationNeverChanges : Prop :=
  ∀ s t : State, step s = .next t → t.cfg = s.cfg

/-- 40_transport R76, R79, 60_exceptions R118, R119: whichever agent moves, a timeout, the first or a later one, is recorded only by
the sequencer, in a wait of a BYTE that finds SBUSY = 1, and then all of it is: TIMEOUT set, TIMEOUT_COUNT counted and saturated,
LAST_CAUSE = TIMEOUT and a Timeout event appended. TIMEOUT_COUNT changes otherwise only to 0, by block reset. -/
def Obligations.TimeoutsOnlyWhileShifting : Prop :=
  ∀ (a : Option Agent) (s t : State), agentStep a s = .next t →
    ((s.timeout = false ∧ t.timeout = true)
      ∨ (∃ (l : List Event) (p : WaitTag), t.trace = s.trace ++ l ∧ Event.timeout p ∈ l)
      ∨ (t.timeoutCount ≠ s.timeoutCount ∧ (a = some .host → noResetNext s = true)) →
      a = some .sequencer ∧ s.bc ≠ 0 ∧ (∃ b : Byte, currentOp s = some (.byte b))
      ∧ t.timeout = true ∧ t.lastCause = .timeout
      ∧ t.timeoutCount = (if s.timeoutCount = 0xFFFF then 0xFFFF else s.timeoutCount + 1)
      ∧ ∃ (l : List Event) (p : WaitTag), t.trace = s.trace ++ l ∧ Event.timeout p ∈ l)
    ∧ (a = some .host → noResetNext s = false → t.timeoutCount = 0)

/-- 20_memory R46, 70_reset R134: as long as no wait is abandoned, a byte is in the shifter only during its own POST wait, and no
Line event occurs then. -/
def Obligations.NoLineChangesDuringAByte : Prop :=
  ∀ s t : State, Inv s → Quiet s → step s = .next t →
    Quiet t ∧ ∀ (l : Line) (v : Level), s.timeout = false → t.trace = s.trace ++ [.line l v] → s.bc = 0

/-- 30_encoding R56, 20_memory R37, R39, R44, R46: the events of the running micro-program are emitted in order, however the host, the
sequencer and the shifter interleave, unless a timeout is recorded: the trace with the events still owed is the same after every
step with BUSY = 1 that is no block reset, whatever else the host does in it, and after every run in which the host neither
submits nor resets, however much it polls, reads and writes. -/
def Obligations.RunEmitsTheProgramInOrder : Prop :=
  (∀ (a : Option Agent) (s t : State), agentStep a s = .next t → s.busy = true →
    (a = some .host → noResetNext s = true) → t.timeout = false →
    t.trace ++ pendingEvents t = s.trace ++ pendingEvents s)
  ∧ (∀ (k : Nat) (s t : State), s.hostQueue.all passiveOp = true → Sys2Proof.core.run k s = .next t → t.timeout = false →
    t.trace ++ pendingEvents t = s.trace ++ pendingEvents s)

/-- 20_memory R43, 42_panel_init R96: with the host silent every operation runs to completion and the shifter drains, whatever the
interleaving and whatever waits are abandoned. -/
def Obligations.OperationsRunToCompletion : Prop :=
  ∀ s : State, Inv s → s.hostQueue = [] →
    ∃ (k : Nat) (t : State), Sys2Proof.core.run k s = .next t ∧ runEnded t = true
end

