-- ==== Sys2Proof/Laws/Decode.lean ====
section
/-! SUPPORT. The fields of a packed word, and the words of their fields; STATUS-independent bit lemmas of the encoding. -/

namespace Sys2Proof

/-- The low half of {hi, lo}. -/
@[simp] theorem packPair_lo (hi lo : Half) : (packPair hi lo).extractLsb' 0 16 = lo := by
  apply BitVec.eq_of_getLsbD_eq
  intro i h
  simp only [packPair, BitVec.getLsbD_append, BitVec.getLsbD_extractLsb', h, decide_true, Bool.true_and]
  rw [if_pos (by omega), Nat.zero_add]

/-- The high half of {hi, lo}. -/
@[simp] theorem packPair_hi (hi lo : Half) : (packPair hi lo).extractLsb' 16 16 = hi := by
  apply BitVec.eq_of_getLsbD_eq
  intro i h
  simp only [packPair, BitVec.getLsbD_append, BitVec.getLsbD_extractLsb', h, decide_true, Bool.true_and]
  rw [if_neg (by omega)]
  congr 1
  omega

/-- COLOR of {COLOR, 0x000, OPC}. -/
@[simp] theorem packOpw0_color (color : Half) (opc : BitVec 4) : (packOpw0 color opc).extractLsb' 16 16 = color := by
  apply BitVec.eq_of_getLsbD_eq
  intro i h
  simp only [packOpw0, BitVec.getLsbD_append, BitVec.getLsbD_extractLsb', h, decide_true, Bool.true_and]
  rw [if_neg (by omega), if_neg (by omega)]
  congr 1
  omega

/-- OPC of {COLOR, 0x000, OPC}. -/
@[simp] theorem packOpw0_opc (color : Half) (opc : BitVec 4) : (packOpw0 color opc).extractLsb' 0 4 = opc := by
  apply BitVec.eq_of_getLsbD_eq
  intro i h
  simp only [packOpw0, BitVec.getLsbD_append, BitVec.getLsbD_extractLsb', h, decide_true, Bool.true_and]
  rw [if_pos (by omega), Nat.zero_add]

/-- RSVD of {COLOR, 0x000, OPC}. -/
@[simp] theorem packOpw0_rsvd (color : Half) (opc : BitVec 4) : (packOpw0 color opc).extractLsb' 4 12 = 0#12 := by
  apply BitVec.eq_of_getLsbD_eq
  intro i h
  simp only [packOpw0, BitVec.getLsbD_append, BitVec.getLsbD_extractLsb', h, decide_true, Bool.true_and]
  rw [if_neg (by omega), if_pos (by omega)]
  simp

/-- A word is the pair of its halves. -/
theorem packPair_halves (w : Word32) : packPair (w.extractLsb' 16 16) (w.extractLsb' 0 16) = w := by
  apply BitVec.eq_of_getLsbD_eq
  intro i h
  simp only [packPair, BitVec.getLsbD_append, BitVec.getLsbD_extractLsb']
  split_ifs with h1
  · simp [h1]
  · simp only [show i - 16 < 16 by omega, decide_true, Bool.true_and]
    congr 1
    omega

/-- A word with RSVD = 0 is its COLOR, zeros, and its OPC. -/
theorem packOpw0_fields {w : Word32} (h : w.extractLsb' 4 12 = 0#12) :
    packOpw0 (w.extractLsb' 16 16) (w.extractLsb' 0 4) = w := by
  have hz : ∀ k, k < 12 → w.getLsbD (4 + k) = false := by
    intro k hk
    have := congrArg (fun v => v.getLsbD k) h
    simpa [BitVec.getLsbD_extractLsb', hk] using this
  apply BitVec.eq_of_getLsbD_eq
  intro i hi
  simp only [packOpw0, BitVec.getLsbD_append, BitVec.getLsbD_extractLsb']
  split_ifs with h1 h2
  · simp [h1]
  · have := hz (i - 4) (by omega)
    rw [show 4 + (i - 4) = i by omega] at this
    simp [this]
  · simp only [show i - 4 - 12 < 16 by omega, decide_true, Bool.true_and]
    congr 1
    omega

end Sys2Proof
end

