-- ==== Sys2Proof/Laws/State.lean ====
section
/-! SUPPORT. One lemma per field per update of the state: what each named operation leaves in each field. -/

namespace Sys2Proof.Machine

/-! ### emit -/

@[simp] theorem emit_cfg (e : Event) (s : State) : (emit e s).cfg = s.cfg := rfl
@[simp] theorem emit_opw0 (e : Event) (s : State) : (emit e s).opw0 = s.opw0 := rfl
@[simp] theorem emit_opw1 (e : Event) (s : State) : (emit e s).opw1 = s.opw1 := rfl
@[simp] theorem emit_opw2 (e : Event) (s : State) : (emit e s).opw2 = s.opw2 := rfl
@[simp] theorem emit_pstate (e : Event) (s : State) : (emit e s).pstate = s.pstate := rfl
@[simp] theorem emit_busy (e : Event) (s : State) : (emit e s).busy = s.busy := rfl
@[simp] theorem emit_fIllegal (e : Event) (s : State) : (emit e s).fIllegal = s.fIllegal := rfl
@[simp] theorem emit_fUbi (e : Event) (s : State) : (emit e s).fUbi = s.fUbi := rfl
@[simp] theorem emit_fOverlap (e : Event) (s : State) : (emit e s).fOverlap = s.fOverlap := rfl
@[simp] theorem emit_timeout (e : Event) (s : State) : (emit e s).timeout = s.timeout := rfl
@[simp] theorem emit_lastCause (e : Event) (s : State) : (emit e s).lastCause = s.lastCause := rfl
@[simp] theorem emit_timeoutCount (e : Event) (s : State) : (emit e s).timeoutCount = s.timeoutCount := rfl
@[simp] theorem emit_latch (e : Event) (s : State) : (emit e s).latch = s.latch := rfl
@[simp] theorem emit_mprog (e : Event) (s : State) : (emit e s).mprog = s.mprog := rfl
@[simp] theorem emit_seqPc (e : Event) (s : State) : (emit e s).seqPc = s.seqPc := rfl
@[simp] theorem emit_seqPhase (e : Event) (s : State) : (emit e s).seqPhase = s.seqPhase := rfl
@[simp] theorem emit_waitCnt (e : Event) (s : State) : (emit e s).waitCnt = s.waitCnt := rfl
@[simp] theorem emit_dlyCnt (e : Event) (s : State) : (emit e s).dlyCnt = s.dlyCnt := rfl
@[simp] theorem emit_sr (e : Event) (s : State) : (emit e s).sr = s.sr := rfl
@[simp] theorem emit_bc (e : Event) (s : State) : (emit e s).bc = s.bc := rfl
@[simp] theorem emit_lRst (e : Event) (s : State) : (emit e s).lRst = s.lRst := rfl
@[simp] theorem emit_lCs (e : Event) (s : State) : (emit e s).lCs = s.lCs := rfl
@[simp] theorem emit_lDc (e : Event) (s : State) : (emit e s).lDc = s.lDc := rfl
@[simp] theorem emit_lBl (e : Event) (s : State) : (emit e s).lBl = s.lBl := rfl
@[simp] theorem emit_sck (e : Event) (s : State) : (emit e s).sck = s.sck := rfl
@[simp] theorem emit_mosi (e : Event) (s : State) : (emit e s).mosi = s.mosi := rfl
@[simp] theorem emit_trace (e : Event) (s : State) : (emit e s).trace = s.trace ++ [e] := rfl
@[simp] theorem emit_busLog (e : Event) (s : State) : (emit e s).busLog = s.busLog := rfl
@[simp] theorem emit_hostQueue (e : Event) (s : State) : (emit e s).hostQueue = s.hostQueue := rfl
@[simp] theorem emit_hostReads (e : Event) (s : State) : (emit e s).hostReads = s.hostReads := rfl
@[simp] theorem emit_tick (e : Event) (s : State) : (emit e s).tick = s.tick := rfl

/-! ### recordTimeout -/

@[simp] theorem recordTimeout_cfg (p : WaitTag) (s : State) : (recordTimeout p s).cfg = s.cfg := rfl
@[simp] theorem recordTimeout_opw0 (p : WaitTag) (s : State) : (recordTimeout p s).opw0 = s.opw0 := rfl
@[simp] theorem recordTimeout_opw1 (p : WaitTag) (s : State) : (recordTimeout p s).opw1 = s.opw1 := rfl
@[simp] theorem recordTimeout_opw2 (p : WaitTag) (s : State) : (recordTimeout p s).opw2 = s.opw2 := rfl
@[simp] theorem recordTimeout_pstate (p : WaitTag) (s : State) : (recordTimeout p s).pstate = s.pstate := rfl
@[simp] theorem recordTimeout_busy (p : WaitTag) (s : State) : (recordTimeout p s).busy = s.busy := rfl
@[simp] theorem recordTimeout_fIllegal (p : WaitTag) (s : State) : (recordTimeout p s).fIllegal = s.fIllegal := rfl
@[simp] theorem recordTimeout_fUbi (p : WaitTag) (s : State) : (recordTimeout p s).fUbi = s.fUbi := rfl
@[simp] theorem recordTimeout_fOverlap (p : WaitTag) (s : State) : (recordTimeout p s).fOverlap = s.fOverlap := rfl
@[simp] theorem recordTimeout_timeout (p : WaitTag) (s : State) : (recordTimeout p s).timeout = true := rfl
@[simp] theorem recordTimeout_lastCause (p : WaitTag) (s : State) : (recordTimeout p s).lastCause = .timeout := rfl
@[simp] theorem recordTimeout_timeoutCount (p : WaitTag) (s : State) : (recordTimeout p s).timeoutCount = countTimeout s.timeoutCount := rfl
@[simp] theorem recordTimeout_latch (p : WaitTag) (s : State) : (recordTimeout p s).latch = s.latch := rfl
@[simp] theorem recordTimeout_mprog (p : WaitTag) (s : State) : (recordTimeout p s).mprog = s.mprog := rfl
@[simp] theorem recordTimeout_seqPc (p : WaitTag) (s : State) : (recordTimeout p s).seqPc = s.seqPc := rfl
@[simp] theorem recordTimeout_seqPhase (p : WaitTag) (s : State) : (recordTimeout p s).seqPhase = s.seqPhase := rfl
@[simp] theorem recordTimeout_waitCnt (p : WaitTag) (s : State) : (recordTimeout p s).waitCnt = s.waitCnt := rfl
@[simp] theorem recordTimeout_dlyCnt (p : WaitTag) (s : State) : (recordTimeout p s).dlyCnt = s.dlyCnt := rfl
@[simp] theorem recordTimeout_sr (p : WaitTag) (s : State) : (recordTimeout p s).sr = s.sr := rfl
@[simp] theorem recordTimeout_bc (p : WaitTag) (s : State) : (recordTimeout p s).bc = s.bc := rfl
@[simp] theorem recordTimeout_lRst (p : WaitTag) (s : State) : (recordTimeout p s).lRst = s.lRst := rfl
@[simp] theorem recordTimeout_lCs (p : WaitTag) (s : State) : (recordTimeout p s).lCs = s.lCs := rfl
@[simp] theorem recordTimeout_lDc (p : WaitTag) (s : State) : (recordTimeout p s).lDc = s.lDc := rfl
@[simp] theorem recordTimeout_lBl (p : WaitTag) (s : State) : (recordTimeout p s).lBl = s.lBl := rfl
@[simp] theorem recordTimeout_sck (p : WaitTag) (s : State) : (recordTimeout p s).sck = s.sck := rfl
@[simp] theorem recordTimeout_mosi (p : WaitTag) (s : State) : (recordTimeout p s).mosi = s.mosi := rfl
@[simp] theorem recordTimeout_trace (p : WaitTag) (s : State) : (recordTimeout p s).trace = s.trace ++ [.timeout p] := rfl
@[simp] theorem recordTimeout_busLog (p : WaitTag) (s : State) : (recordTimeout p s).busLog = s.busLog := rfl
@[simp] theorem recordTimeout_hostQueue (p : WaitTag) (s : State) : (recordTimeout p s).hostQueue = s.hostQueue := rfl
@[simp] theorem recordTimeout_hostReads (p : WaitTag) (s : State) : (recordTimeout p s).hostReads = s.hostReads := rfl
@[simp] theorem recordTimeout_tick (p : WaitTag) (s : State) : (recordTimeout p s).tick = s.tick := rfl

/-! ### raiseFault -/

@[simp] theorem raiseFault_cfg (f : HostFault) (s : State) : (raiseFault f s).cfg = s.cfg := by cases f <;> simp [raiseFault]
@[simp] theorem raiseFault_opw0 (f : HostFault) (s : State) : (raiseFault f s).opw0 = s.opw0 := by cases f <;> simp [raiseFault]
@[simp] theorem raiseFault_opw1 (f : HostFault) (s : State) : (raiseFault f s).opw1 = s.opw1 := by cases f <;> simp [raiseFault]
@[simp] theorem raiseFault_opw2 (f : HostFault) (s : State) : (raiseFault f s).opw2 = s.opw2 := by cases f <;> simp [raiseFault]
@[simp] theorem raiseFault_pstate (f : HostFault) (s : State) : (raiseFault f s).pstate = s.pstate := by cases f <;> simp [raiseFault]
@[simp] theorem raiseFault_busy (f : HostFault) (s : State) : (raiseFault f s).busy = s.busy := by cases f <;> simp [raiseFault]
@[simp] theorem raiseFault_fIllegal (f : HostFault) (s : State) : (raiseFault f s).fIllegal = (s.fIllegal || decide (f = .illegal)) := by cases f <;> simp [raiseFault]
@[simp] theorem raiseFault_fUbi (f : HostFault) (s : State) : (raiseFault f s).fUbi = (s.fUbi || decide (f = .ubi)) := by cases f <;> simp [raiseFault]
@[simp] theorem raiseFault_fOverlap (f : HostFault) (s : State) : (raiseFault f s).fOverlap = (s.fOverlap || decide (f = .overlap)) := by cases f <;> simp [raiseFault]
@[simp] theorem raiseFault_timeout (f : HostFault) (s : State) : (raiseFault f s).timeout = s.timeout := by cases f <;> simp [raiseFault]
@[simp] theorem raiseFault_lastCause (f : HostFault) (s : State) : (raiseFault f s).lastCause = faultCause f := by cases f <;> simp [raiseFault]
@[simp] theorem raiseFault_timeoutCount (f : HostFault) (s : State) : (raiseFault f s).timeoutCount = s.timeoutCount := by cases f <;> simp [raiseFault]
@[simp] theorem raiseFault_latch (f : HostFault) (s : State) : (raiseFault f s).latch = s.latch := by cases f <;> simp [raiseFault]
@[simp] theorem raiseFault_mprog (f : HostFault) (s : State) : (raiseFault f s).mprog = s.mprog := by cases f <;> simp [raiseFault]
@[simp] theorem raiseFault_seqPc (f : HostFault) (s : State) : (raiseFault f s).seqPc = s.seqPc := by cases f <;> simp [raiseFault]
@[simp] theorem raiseFault_seqPhase (f : HostFault) (s : State) : (raiseFault f s).seqPhase = s.seqPhase := by cases f <;> simp [raiseFault]
@[simp] theorem raiseFault_waitCnt (f : HostFault) (s : State) : (raiseFault f s).waitCnt = s.waitCnt := by cases f <;> simp [raiseFault]
@[simp] theorem raiseFault_dlyCnt (f : HostFault) (s : State) : (raiseFault f s).dlyCnt = s.dlyCnt := by cases f <;> simp [raiseFault]
@[simp] theorem raiseFault_sr (f : HostFault) (s : State) : (raiseFault f s).sr = s.sr := by cases f <;> simp [raiseFault]
@[simp] theorem raiseFault_bc (f : HostFault) (s : State) : (raiseFault f s).bc = s.bc := by cases f <;> simp [raiseFault]
@[simp] theorem raiseFault_lRst (f : HostFault) (s : State) : (raiseFault f s).lRst = s.lRst := by cases f <;> simp [raiseFault]
@[simp] theorem raiseFault_lCs (f : HostFault) (s : State) : (raiseFault f s).lCs = s.lCs := by cases f <;> simp [raiseFault]
@[simp] theorem raiseFault_lDc (f : HostFault) (s : State) : (raiseFault f s).lDc = s.lDc := by cases f <;> simp [raiseFault]
@[simp] theorem raiseFault_lBl (f : HostFault) (s : State) : (raiseFault f s).lBl = s.lBl := by cases f <;> simp [raiseFault]
@[simp] theorem raiseFault_sck (f : HostFault) (s : State) : (raiseFault f s).sck = s.sck := by cases f <;> simp [raiseFault]
@[simp] theorem raiseFault_mosi (f : HostFault) (s : State) : (raiseFault f s).mosi = s.mosi := by cases f <;> simp [raiseFault]
@[simp] theorem raiseFault_trace (f : HostFault) (s : State) : (raiseFault f s).trace = s.trace := by cases f <;> simp [raiseFault]
@[simp] theorem raiseFault_busLog (f : HostFault) (s : State) : (raiseFault f s).busLog = s.busLog := by cases f <;> simp [raiseFault]
@[simp] theorem raiseFault_hostQueue (f : HostFault) (s : State) : (raiseFault f s).hostQueue = s.hostQueue := by cases f <;> simp [raiseFault]
@[simp] theorem raiseFault_hostReads (f : HostFault) (s : State) : (raiseFault f s).hostReads = s.hostReads := by cases f <;> simp [raiseFault]
@[simp] theorem raiseFault_tick (f : HostFault) (s : State) : (raiseFault f s).tick = s.tick := by cases f <;> simp [raiseFault]

/-! ### driveLine -/

@[simp] theorem driveLine_cfg (l : Line) (v : Level) (s : State) : (driveLine l v s).cfg = s.cfg := by cases l <;> rfl
@[simp] theorem driveLine_opw0 (l : Line) (v : Level) (s : State) : (driveLine l v s).opw0 = s.opw0 := by cases l <;> rfl
@[simp] theorem driveLine_opw1 (l : Line) (v : Level) (s : State) : (driveLine l v s).opw1 = s.opw1 := by cases l <;> rfl
@[simp] theorem driveLine_opw2 (l : Line) (v : Level) (s : State) : (driveLine l v s).opw2 = s.opw2 := by cases l <;> rfl
@[simp] theorem driveLine_pstate (l : Line) (v : Level) (s : State) : (driveLine l v s).pstate = s.pstate := by cases l <;> rfl
@[simp] theorem driveLine_busy (l : Line) (v : Level) (s : State) : (driveLine l v s).busy = s.busy := by cases l <;> rfl
@[simp] theorem driveLine_fIllegal (l : Line) (v : Level) (s : State) : (driveLine l v s).fIllegal = s.fIllegal := by cases l <;> rfl
@[simp] theorem driveLine_fUbi (l : Line) (v : Level) (s : State) : (driveLine l v s).fUbi = s.fUbi := by cases l <;> rfl
@[simp] theorem driveLine_fOverlap (l : Line) (v : Level) (s : State) : (driveLine l v s).fOverlap = s.fOverlap := by cases l <;> rfl
@[simp] theorem driveLine_timeout (l : Line) (v : Level) (s : State) : (driveLine l v s).timeout = s.timeout := by cases l <;> rfl
@[simp] theorem driveLine_lastCause (l : Line) (v : Level) (s : State) : (driveLine l v s).lastCause = s.lastCause := by cases l <;> rfl
@[simp] theorem driveLine_timeoutCount (l : Line) (v : Level) (s : State) : (driveLine l v s).timeoutCount = s.timeoutCount := by cases l <;> rfl
@[simp] theorem driveLine_latch (l : Line) (v : Level) (s : State) : (driveLine l v s).latch = s.latch := by cases l <;> rfl
@[simp] theorem driveLine_mprog (l : Line) (v : Level) (s : State) : (driveLine l v s).mprog = s.mprog := by cases l <;> rfl
@[simp] theorem driveLine_seqPc (l : Line) (v : Level) (s : State) : (driveLine l v s).seqPc = s.seqPc := by cases l <;> rfl
@[simp] theorem driveLine_seqPhase (l : Line) (v : Level) (s : State) : (driveLine l v s).seqPhase = s.seqPhase := by cases l <;> rfl
@[simp] theorem driveLine_waitCnt (l : Line) (v : Level) (s : State) : (driveLine l v s).waitCnt = s.waitCnt := by cases l <;> rfl
@[simp] theorem driveLine_dlyCnt (l : Line) (v : Level) (s : State) : (driveLine l v s).dlyCnt = s.dlyCnt := by cases l <;> rfl
@[simp] theorem driveLine_sr (l : Line) (v : Level) (s : State) : (driveLine l v s).sr = s.sr := by cases l <;> rfl
@[simp] theorem driveLine_bc (l : Line) (v : Level) (s : State) : (driveLine l v s).bc = s.bc := by cases l <;> rfl
@[simp] theorem driveLine_lRst (l : Line) (v : Level) (s : State) : (driveLine l v s).lRst = (if l = .rst then v else s.lRst) := by cases l <;> rfl
@[simp] theorem driveLine_lCs (l : Line) (v : Level) (s : State) : (driveLine l v s).lCs = (if l = .cs then v else s.lCs) := by cases l <;> rfl
@[simp] theorem driveLine_lDc (l : Line) (v : Level) (s : State) : (driveLine l v s).lDc = (if l = .dc then v else s.lDc) := by cases l <;> rfl
@[simp] theorem driveLine_lBl (l : Line) (v : Level) (s : State) : (driveLine l v s).lBl = (if l = .bl then v else s.lBl) := by cases l <;> rfl
@[simp] theorem driveLine_sck (l : Line) (v : Level) (s : State) : (driveLine l v s).sck = s.sck := by cases l <;> rfl
@[simp] theorem driveLine_mosi (l : Line) (v : Level) (s : State) : (driveLine l v s).mosi = s.mosi := by cases l <;> rfl
@[simp] theorem driveLine_trace (l : Line) (v : Level) (s : State) : (driveLine l v s).trace = s.trace ++ [.line l v] := by cases l <;> rfl
@[simp] theorem driveLine_busLog (l : Line) (v : Level) (s : State) : (driveLine l v s).busLog = s.busLog := by cases l <;> rfl
@[simp] theorem driveLine_hostQueue (l : Line) (v : Level) (s : State) : (driveLine l v s).hostQueue = s.hostQueue := by cases l <;> rfl
@[simp] theorem driveLine_hostReads (l : Line) (v : Level) (s : State) : (driveLine l v s).hostReads = s.hostReads := by cases l <;> rfl
@[simp] theorem driveLine_tick (l : Line) (v : Level) (s : State) : (driveLine l v s).tick = s.tick := by cases l <;> rfl

/-! ### bitStep -/

@[simp] theorem bitStep_cfg (s : State) : (bitStep s).cfg = s.cfg := rfl
@[simp] theorem bitStep_opw0 (s : State) : (bitStep s).opw0 = s.opw0 := rfl
@[simp] theorem bitStep_opw1 (s : State) : (bitStep s).opw1 = s.opw1 := rfl
@[simp] theorem bitStep_opw2 (s : State) : (bitStep s).opw2 = s.opw2 := rfl
@[simp] theorem bitStep_pstate (s : State) : (bitStep s).pstate = s.pstate := rfl
@[simp] theorem bitStep_busy (s : State) : (bitStep s).busy = s.busy := rfl
@[simp] theorem bitStep_fIllegal (s : State) : (bitStep s).fIllegal = s.fIllegal := rfl
@[simp] theorem bitStep_fUbi (s : State) : (bitStep s).fUbi = s.fUbi := rfl
@[simp] theorem bitStep_fOverlap (s : State) : (bitStep s).fOverlap = s.fOverlap := rfl
@[simp] theorem bitStep_timeout (s : State) : (bitStep s).timeout = s.timeout := rfl
@[simp] theorem bitStep_lastCause (s : State) : (bitStep s).lastCause = s.lastCause := rfl
@[simp] theorem bitStep_timeoutCount (s : State) : (bitStep s).timeoutCount = s.timeoutCount := rfl
@[simp] theorem bitStep_latch (s : State) : (bitStep s).latch = s.latch := rfl
@[simp] theorem bitStep_mprog (s : State) : (bitStep s).mprog = s.mprog := rfl
@[simp] theorem bitStep_seqPc (s : State) : (bitStep s).seqPc = s.seqPc := rfl
@[simp] theorem bitStep_seqPhase (s : State) : (bitStep s).seqPhase = s.seqPhase := rfl
@[simp] theorem bitStep_waitCnt (s : State) : (bitStep s).waitCnt = s.waitCnt := rfl
@[simp] theorem bitStep_dlyCnt (s : State) : (bitStep s).dlyCnt = s.dlyCnt := rfl
@[simp] theorem bitStep_sr (s : State) : (bitStep s).sr = s.sr <<< 1 := rfl
@[simp] theorem bitStep_bc (s : State) : (bitStep s).bc = s.bc - 1 := rfl
@[simp] theorem bitStep_lRst (s : State) : (bitStep s).lRst = s.lRst := rfl
@[simp] theorem bitStep_lCs (s : State) : (bitStep s).lCs = s.lCs := rfl
@[simp] theorem bitStep_lDc (s : State) : (bitStep s).lDc = s.lDc := rfl
@[simp] theorem bitStep_lBl (s : State) : (bitStep s).lBl = s.lBl := rfl
@[simp] theorem bitStep_sck (s : State) : (bitStep s).sck = HIGH := rfl
@[simp] theorem bitStep_mosi (s : State) : (bitStep s).mosi = s.sr.getLsbD 7 := rfl
@[simp] theorem bitStep_trace (s : State) : (bitStep s).trace = s.trace := rfl
@[simp] theorem bitStep_busLog (s : State) : (bitStep s).busLog = s.busLog ++ [(LOW, s.sr.getLsbD 7)] ++ [(HIGH, s.sr.getLsbD 7)] := rfl
@[simp] theorem bitStep_hostQueue (s : State) : (bitStep s).hostQueue = s.hostQueue := rfl
@[simp] theorem bitStep_hostReads (s : State) : (bitStep s).hostReads = s.hostReads := rfl
@[simp] theorem bitStep_tick (s : State) : (bitStep s).tick = s.tick := rfl

/-! ### issueByte -/

@[simp] theorem issueByte_cfg (b : Byte) (s : State) : (issueByte b s).cfg = s.cfg := rfl
@[simp] theorem issueByte_opw0 (b : Byte) (s : State) : (issueByte b s).opw0 = s.opw0 := rfl
@[simp] theorem issueByte_opw1 (b : Byte) (s : State) : (issueByte b s).opw1 = s.opw1 := rfl
@[simp] theorem issueByte_opw2 (b : Byte) (s : State) : (issueByte b s).opw2 = s.opw2 := rfl
@[simp] theorem issueByte_pstate (b : Byte) (s : State) : (issueByte b s).pstate = s.pstate := rfl
@[simp] theorem issueByte_busy (b : Byte) (s : State) : (issueByte b s).busy = s.busy := rfl
@[simp] theorem issueByte_fIllegal (b : Byte) (s : State) : (issueByte b s).fIllegal = s.fIllegal := rfl
@[simp] theorem issueByte_fUbi (b : Byte) (s : State) : (issueByte b s).fUbi = s.fUbi := rfl
@[simp] theorem issueByte_fOverlap (b : Byte) (s : State) : (issueByte b s).fOverlap = s.fOverlap := rfl
@[simp] theorem issueByte_timeout (b : Byte) (s : State) : (issueByte b s).timeout = s.timeout := rfl
@[simp] theorem issueByte_lastCause (b : Byte) (s : State) : (issueByte b s).lastCause = s.lastCause := rfl
@[simp] theorem issueByte_timeoutCount (b : Byte) (s : State) : (issueByte b s).timeoutCount = s.timeoutCount := rfl
@[simp] theorem issueByte_latch (b : Byte) (s : State) : (issueByte b s).latch = s.latch := rfl
@[simp] theorem issueByte_mprog (b : Byte) (s : State) : (issueByte b s).mprog = s.mprog := rfl
@[simp] theorem issueByte_seqPc (b : Byte) (s : State) : (issueByte b s).seqPc = s.seqPc := rfl
@[simp] theorem issueByte_seqPhase (b : Byte) (s : State) : (issueByte b s).seqPhase = .waitPost := rfl
@[simp] theorem issueByte_waitCnt (b : Byte) (s : State) : (issueByte b s).waitCnt = 0 := rfl
@[simp] theorem issueByte_dlyCnt (b : Byte) (s : State) : (issueByte b s).dlyCnt = s.dlyCnt := rfl
@[simp] theorem issueByte_sr (b : Byte) (s : State) : (issueByte b s).sr = b := rfl
@[simp] theorem issueByte_bc (b : Byte) (s : State) : (issueByte b s).bc = 8 := rfl
@[simp] theorem issueByte_lRst (b : Byte) (s : State) : (issueByte b s).lRst = s.lRst := rfl
@[simp] theorem issueByte_lCs (b : Byte) (s : State) : (issueByte b s).lCs = s.lCs := rfl
@[simp] theorem issueByte_lDc (b : Byte) (s : State) : (issueByte b s).lDc = s.lDc := rfl
@[simp] theorem issueByte_lBl (b : Byte) (s : State) : (issueByte b s).lBl = s.lBl := rfl
@[simp] theorem issueByte_sck (b : Byte) (s : State) : (issueByte b s).sck = s.sck := rfl
@[simp] theorem issueByte_mosi (b : Byte) (s : State) : (issueByte b s).mosi = s.mosi := rfl
@[simp] theorem issueByte_trace (b : Byte) (s : State) : (issueByte b s).trace = s.trace ++ [.byte b s.lCs s.lDc] := rfl
@[simp] theorem issueByte_busLog (b : Byte) (s : State) : (issueByte b s).busLog = s.busLog := rfl
@[simp] theorem issueByte_hostQueue (b : Byte) (s : State) : (issueByte b s).hostQueue = s.hostQueue := rfl
@[simp] theorem issueByte_hostReads (b : Byte) (s : State) : (issueByte b s).hostReads = s.hostReads := rfl
@[simp] theorem issueByte_tick (b : Byte) (s : State) : (issueByte b s).tick = s.tick := rfl

/-! ### complete -/

@[simp] theorem complete_cfg (s : State) : (complete s).cfg = s.cfg := rfl
@[simp] theorem complete_opw0 (s : State) : (complete s).opw0 = s.opw0 := rfl
@[simp] theorem complete_opw1 (s : State) : (complete s).opw1 = s.opw1 := rfl
@[simp] theorem complete_opw2 (s : State) : (complete s).opw2 = s.opw2 := rfl
@[simp] theorem complete_pstate (s : State) : (complete s).pstate = s.pstate := rfl
@[simp] theorem complete_busy (s : State) : (complete s).busy = false := rfl
@[simp] theorem complete_fIllegal (s : State) : (complete s).fIllegal = s.fIllegal := rfl
@[simp] theorem complete_fUbi (s : State) : (complete s).fUbi = s.fUbi := rfl
@[simp] theorem complete_fOverlap (s : State) : (complete s).fOverlap = s.fOverlap := rfl
@[simp] theorem complete_timeout (s : State) : (complete s).timeout = s.timeout := rfl
@[simp] theorem complete_lastCause (s : State) : (complete s).lastCause = s.lastCause := rfl
@[simp] theorem complete_timeoutCount (s : State) : (complete s).timeoutCount = s.timeoutCount := rfl
@[simp] theorem complete_latch (s : State) : (complete s).latch = s.latch := rfl
@[simp] theorem complete_mprog (s : State) : (complete s).mprog = [] := rfl
@[simp] theorem complete_seqPc (s : State) : (complete s).seqPc = 0 := rfl
@[simp] theorem complete_seqPhase (s : State) : (complete s).seqPhase = .idle := rfl
@[simp] theorem complete_waitCnt (s : State) : (complete s).waitCnt = s.waitCnt := rfl
@[simp] theorem complete_dlyCnt (s : State) : (complete s).dlyCnt = s.dlyCnt := rfl
@[simp] theorem complete_sr (s : State) : (complete s).sr = s.sr := rfl
@[simp] theorem complete_bc (s : State) : (complete s).bc = s.bc := rfl
@[simp] theorem complete_lRst (s : State) : (complete s).lRst = s.lRst := rfl
@[simp] theorem complete_lCs (s : State) : (complete s).lCs = s.lCs := rfl
@[simp] theorem complete_lDc (s : State) : (complete s).lDc = s.lDc := rfl
@[simp] theorem complete_lBl (s : State) : (complete s).lBl = s.lBl := rfl
@[simp] theorem complete_sck (s : State) : (complete s).sck = s.sck := rfl
@[simp] theorem complete_mosi (s : State) : (complete s).mosi = s.mosi := rfl
@[simp] theorem complete_trace (s : State) : (complete s).trace = s.trace := rfl
@[simp] theorem complete_busLog (s : State) : (complete s).busLog = s.busLog := rfl
@[simp] theorem complete_hostQueue (s : State) : (complete s).hostQueue = s.hostQueue := rfl
@[simp] theorem complete_hostReads (s : State) : (complete s).hostReads = s.hostReads := rfl
@[simp] theorem complete_tick (s : State) : (complete s).tick = s.tick := rfl

/-! ### countPoll -/

@[simp] theorem countPoll_cfg (s : State) : (countPoll s).cfg = s.cfg := rfl
@[simp] theorem countPoll_opw0 (s : State) : (countPoll s).opw0 = s.opw0 := rfl
@[simp] theorem countPoll_opw1 (s : State) : (countPoll s).opw1 = s.opw1 := rfl
@[simp] theorem countPoll_opw2 (s : State) : (countPoll s).opw2 = s.opw2 := rfl
@[simp] theorem countPoll_pstate (s : State) : (countPoll s).pstate = s.pstate := rfl
@[simp] theorem countPoll_busy (s : State) : (countPoll s).busy = s.busy := rfl
@[simp] theorem countPoll_fIllegal (s : State) : (countPoll s).fIllegal = s.fIllegal := rfl
@[simp] theorem countPoll_fUbi (s : State) : (countPoll s).fUbi = s.fUbi := rfl
@[simp] theorem countPoll_fOverlap (s : State) : (countPoll s).fOverlap = s.fOverlap := rfl
@[simp] theorem countPoll_timeout (s : State) : (countPoll s).timeout = s.timeout := rfl
@[simp] theorem countPoll_lastCause (s : State) : (countPoll s).lastCause = s.lastCause := rfl
@[simp] theorem countPoll_timeoutCount (s : State) : (countPoll s).timeoutCount = s.timeoutCount := rfl
@[simp] theorem countPoll_latch (s : State) : (countPoll s).latch = s.latch := rfl
@[simp] theorem countPoll_mprog (s : State) : (countPoll s).mprog = s.mprog := rfl
@[simp] theorem countPoll_seqPc (s : State) : (countPoll s).seqPc = s.seqPc := rfl
@[simp] theorem countPoll_seqPhase (s : State) : (countPoll s).seqPhase = s.seqPhase := rfl
@[simp] theorem countPoll_waitCnt (s : State) : (countPoll s).waitCnt = s.waitCnt + 1 := rfl
@[simp] theorem countPoll_dlyCnt (s : State) : (countPoll s).dlyCnt = s.dlyCnt := rfl
@[simp] theorem countPoll_sr (s : State) : (countPoll s).sr = s.sr := rfl
@[simp] theorem countPoll_bc (s : State) : (countPoll s).bc = s.bc := rfl
@[simp] theorem countPoll_lRst (s : State) : (countPoll s).lRst = s.lRst := rfl
@[simp] theorem countPoll_lCs (s : State) : (countPoll s).lCs = s.lCs := rfl
@[simp] theorem countPoll_lDc (s : State) : (countPoll s).lDc = s.lDc := rfl
@[simp] theorem countPoll_lBl (s : State) : (countPoll s).lBl = s.lBl := rfl
@[simp] theorem countPoll_sck (s : State) : (countPoll s).sck = s.sck := rfl
@[simp] theorem countPoll_mosi (s : State) : (countPoll s).mosi = s.mosi := rfl
@[simp] theorem countPoll_trace (s : State) : (countPoll s).trace = s.trace := rfl
@[simp] theorem countPoll_busLog (s : State) : (countPoll s).busLog = s.busLog := rfl
@[simp] theorem countPoll_hostQueue (s : State) : (countPoll s).hostQueue = s.hostQueue := rfl
@[simp] theorem countPoll_hostReads (s : State) : (countPoll s).hostReads = s.hostReads := rfl
@[simp] theorem countPoll_tick (s : State) : (countPoll s).tick = s.tick := rfl

/-! ### setPanelState -/

@[simp] theorem setPanelState_cfg (p : PanelState) (s : State) : (setPanelState p s).cfg = s.cfg := rfl
@[simp] theorem setPanelState_opw0 (p : PanelState) (s : State) : (setPanelState p s).opw0 = s.opw0 := rfl
@[simp] theorem setPanelState_opw1 (p : PanelState) (s : State) : (setPanelState p s).opw1 = s.opw1 := rfl
@[simp] theorem setPanelState_opw2 (p : PanelState) (s : State) : (setPanelState p s).opw2 = s.opw2 := rfl
@[simp] theorem setPanelState_pstate (p : PanelState) (s : State) : (setPanelState p s).pstate = p := rfl
@[simp] theorem setPanelState_busy (p : PanelState) (s : State) : (setPanelState p s).busy = s.busy := rfl
@[simp] theorem setPanelState_fIllegal (p : PanelState) (s : State) : (setPanelState p s).fIllegal = s.fIllegal := rfl
@[simp] theorem setPanelState_fUbi (p : PanelState) (s : State) : (setPanelState p s).fUbi = s.fUbi := rfl
@[simp] theorem setPanelState_fOverlap (p : PanelState) (s : State) : (setPanelState p s).fOverlap = s.fOverlap := rfl
@[simp] theorem setPanelState_timeout (p : PanelState) (s : State) : (setPanelState p s).timeout = s.timeout := rfl
@[simp] theorem setPanelState_lastCause (p : PanelState) (s : State) : (setPanelState p s).lastCause = s.lastCause := rfl
@[simp] theorem setPanelState_timeoutCount (p : PanelState) (s : State) : (setPanelState p s).timeoutCount = s.timeoutCount := rfl
@[simp] theorem setPanelState_latch (p : PanelState) (s : State) : (setPanelState p s).latch = s.latch := rfl
@[simp] theorem setPanelState_mprog (p : PanelState) (s : State) : (setPanelState p s).mprog = s.mprog := rfl
@[simp] theorem setPanelState_seqPc (p : PanelState) (s : State) : (setPanelState p s).seqPc = s.seqPc := rfl
@[simp] theorem setPanelState_seqPhase (p : PanelState) (s : State) : (setPanelState p s).seqPhase = s.seqPhase := rfl
@[simp] theorem setPanelState_waitCnt (p : PanelState) (s : State) : (setPanelState p s).waitCnt = s.waitCnt := rfl
@[simp] theorem setPanelState_dlyCnt (p : PanelState) (s : State) : (setPanelState p s).dlyCnt = s.dlyCnt := rfl
@[simp] theorem setPanelState_sr (p : PanelState) (s : State) : (setPanelState p s).sr = s.sr := rfl
@[simp] theorem setPanelState_bc (p : PanelState) (s : State) : (setPanelState p s).bc = s.bc := rfl
@[simp] theorem setPanelState_lRst (p : PanelState) (s : State) : (setPanelState p s).lRst = s.lRst := rfl
@[simp] theorem setPanelState_lCs (p : PanelState) (s : State) : (setPanelState p s).lCs = s.lCs := rfl
@[simp] theorem setPanelState_lDc (p : PanelState) (s : State) : (setPanelState p s).lDc = s.lDc := rfl
@[simp] theorem setPanelState_lBl (p : PanelState) (s : State) : (setPanelState p s).lBl = s.lBl := rfl
@[simp] theorem setPanelState_sck (p : PanelState) (s : State) : (setPanelState p s).sck = s.sck := rfl
@[simp] theorem setPanelState_mosi (p : PanelState) (s : State) : (setPanelState p s).mosi = s.mosi := rfl
@[simp] theorem setPanelState_trace (p : PanelState) (s : State) : (setPanelState p s).trace = s.trace := rfl
@[simp] theorem setPanelState_busLog (p : PanelState) (s : State) : (setPanelState p s).busLog = s.busLog := rfl
@[simp] theorem setPanelState_hostQueue (p : PanelState) (s : State) : (setPanelState p s).hostQueue = s.hostQueue := rfl
@[simp] theorem setPanelState_hostReads (p : PanelState) (s : State) : (setPanelState p s).hostReads = s.hostReads := rfl
@[simp] theorem setPanelState_tick (p : PanelState) (s : State) : (setPanelState p s).tick = s.tick := rfl

/-! ### advance -/

@[simp] theorem advance_cfg (s : State) : (advance s).cfg = s.cfg := rfl
@[simp] theorem advance_opw0 (s : State) : (advance s).opw0 = s.opw0 := rfl
@[simp] theorem advance_opw1 (s : State) : (advance s).opw1 = s.opw1 := rfl
@[simp] theorem advance_opw2 (s : State) : (advance s).opw2 = s.opw2 := rfl
@[simp] theorem advance_pstate (s : State) : (advance s).pstate = s.pstate := rfl
@[simp] theorem advance_busy (s : State) : (advance s).busy = s.busy := rfl
@[simp] theorem advance_fIllegal (s : State) : (advance s).fIllegal = s.fIllegal := rfl
@[simp] theorem advance_fUbi (s : State) : (advance s).fUbi = s.fUbi := rfl
@[simp] theorem advance_fOverlap (s : State) : (advance s).fOverlap = s.fOverlap := rfl
@[simp] theorem advance_timeout (s : State) : (advance s).timeout = s.timeout := rfl
@[simp] theorem advance_lastCause (s : State) : (advance s).lastCause = s.lastCause := rfl
@[simp] theorem advance_timeoutCount (s : State) : (advance s).timeoutCount = s.timeoutCount := rfl
@[simp] theorem advance_latch (s : State) : (advance s).latch = s.latch := rfl
@[simp] theorem advance_mprog (s : State) : (advance s).mprog = s.mprog := rfl
@[simp] theorem advance_seqPc (s : State) : (advance s).seqPc = s.seqPc := rfl
@[simp] theorem advance_seqPhase (s : State) : (advance s).seqPhase = s.seqPhase := rfl
@[simp] theorem advance_waitCnt (s : State) : (advance s).waitCnt = s.waitCnt := rfl
@[simp] theorem advance_dlyCnt (s : State) : (advance s).dlyCnt = s.dlyCnt := rfl
@[simp] theorem advance_sr (s : State) : (advance s).sr = s.sr := rfl
@[simp] theorem advance_bc (s : State) : (advance s).bc = s.bc := rfl
@[simp] theorem advance_lRst (s : State) : (advance s).lRst = s.lRst := rfl
@[simp] theorem advance_lCs (s : State) : (advance s).lCs = s.lCs := rfl
@[simp] theorem advance_lDc (s : State) : (advance s).lDc = s.lDc := rfl
@[simp] theorem advance_lBl (s : State) : (advance s).lBl = s.lBl := rfl
@[simp] theorem advance_sck (s : State) : (advance s).sck = s.sck := rfl
@[simp] theorem advance_mosi (s : State) : (advance s).mosi = s.mosi := rfl
@[simp] theorem advance_trace (s : State) : (advance s).trace = s.trace := rfl
@[simp] theorem advance_busLog (s : State) : (advance s).busLog = s.busLog := rfl
@[simp] theorem advance_hostQueue (s : State) : (advance s).hostQueue = s.hostQueue := rfl
@[simp] theorem advance_hostReads (s : State) : (advance s).hostReads = s.hostReads := rfl
@[simp] theorem advance_tick (s : State) : (advance s).tick = s.tick + 1 := rfl

/-! ### microDone -/

@[simp] theorem microDone_cfg (s : State) : (microDone s).cfg = s.cfg := by unfold microDone; split <;> rfl
@[simp] theorem microDone_opw0 (s : State) : (microDone s).opw0 = s.opw0 := by unfold microDone; split <;> rfl
@[simp] theorem microDone_opw1 (s : State) : (microDone s).opw1 = s.opw1 := by unfold microDone; split <;> rfl
@[simp] theorem microDone_opw2 (s : State) : (microDone s).opw2 = s.opw2 := by unfold microDone; split <;> rfl
@[simp] theorem microDone_pstate (s : State) : (microDone s).pstate = s.pstate := by unfold microDone; split <;> rfl
@[simp] theorem microDone_fIllegal (s : State) : (microDone s).fIllegal = s.fIllegal := by unfold microDone; split <;> rfl
@[simp] theorem microDone_fUbi (s : State) : (microDone s).fUbi = s.fUbi := by unfold microDone; split <;> rfl
@[simp] theorem microDone_fOverlap (s : State) : (microDone s).fOverlap = s.fOverlap := by unfold microDone; split <;> rfl
@[simp] theorem microDone_timeout (s : State) : (microDone s).timeout = s.timeout := by unfold microDone; split <;> rfl
@[simp] theorem microDone_lastCause (s : State) : (microDone s).lastCause = s.lastCause := by unfold microDone; split <;> rfl
@[simp] theorem microDone_timeoutCount (s : State) : (microDone s).timeoutCount = s.timeoutCount := by unfold microDone; split <;> rfl
@[simp] theorem microDone_latch (s : State) : (microDone s).latch = s.latch := by unfold microDone; split <;> rfl
@[simp] theorem microDone_waitCnt (s : State) : (microDone s).waitCnt = s.waitCnt := by unfold microDone; split <;> rfl
@[simp] theorem microDone_dlyCnt (s : State) : (microDone s).dlyCnt = s.dlyCnt := by unfold microDone; split <;> rfl
@[simp] theorem microDone_sr (s : State) : (microDone s).sr = s.sr := by unfold microDone; split <;> rfl
@[simp] theorem microDone_bc (s : State) : (microDone s).bc = s.bc := by unfold microDone; split <;> rfl
@[simp] theorem microDone_lRst (s : State) : (microDone s).lRst = s.lRst := by unfold microDone; split <;> rfl
@[simp] theorem microDone_lCs (s : State) : (microDone s).lCs = s.lCs := by unfold microDone; split <;> rfl
@[simp] theorem microDone_lDc (s : State) : (microDone s).lDc = s.lDc := by unfold microDone; split <;> rfl
@[simp] theorem microDone_lBl (s : State) : (microDone s).lBl = s.lBl := by unfold microDone; split <;> rfl
@[simp] theorem microDone_sck (s : State) : (microDone s).sck = s.sck := by unfold microDone; split <;> rfl
@[simp] theorem microDone_mosi (s : State) : (microDone s).mosi = s.mosi := by unfold microDone; split <;> rfl
@[simp] theorem microDone_trace (s : State) : (microDone s).trace = s.trace := by unfold microDone; split <;> rfl
@[simp] theorem microDone_busLog (s : State) : (microDone s).busLog = s.busLog := by unfold microDone; split <;> rfl
@[simp] theorem microDone_hostQueue (s : State) : (microDone s).hostQueue = s.hostQueue := by unfold microDone; split <;> rfl
@[simp] theorem microDone_hostReads (s : State) : (microDone s).hostReads = s.hostReads := by unfold microDone; split <;> rfl
@[simp] theorem microDone_tick (s : State) : (microDone s).tick = s.tick := by unfold microDone; split <;> rfl

/-! ### accept -/

@[simp] theorem accept_cfg (prog : List MicroOp) (s : State) : (accept prog s).cfg = s.cfg := by cases prog <;> rfl
@[simp] theorem accept_opw0 (prog : List MicroOp) (s : State) : (accept prog s).opw0 = s.opw0 := by cases prog <;> rfl
@[simp] theorem accept_opw1 (prog : List MicroOp) (s : State) : (accept prog s).opw1 = s.opw1 := by cases prog <;> rfl
@[simp] theorem accept_opw2 (prog : List MicroOp) (s : State) : (accept prog s).opw2 = s.opw2 := by cases prog <;> rfl
@[simp] theorem accept_pstate (prog : List MicroOp) (s : State) : (accept prog s).pstate = s.pstate := by cases prog <;> rfl
@[simp] theorem accept_busy (prog : List MicroOp) (s : State) : (accept prog s).busy = !prog.isEmpty := by cases prog <;> rfl
@[simp] theorem accept_fIllegal (prog : List MicroOp) (s : State) : (accept prog s).fIllegal = s.fIllegal := by cases prog <;> rfl
@[simp] theorem accept_fUbi (prog : List MicroOp) (s : State) : (accept prog s).fUbi = s.fUbi := by cases prog <;> rfl
@[simp] theorem accept_fOverlap (prog : List MicroOp) (s : State) : (accept prog s).fOverlap = s.fOverlap := by cases prog <;> rfl
@[simp] theorem accept_timeout (prog : List MicroOp) (s : State) : (accept prog s).timeout = s.timeout := by cases prog <;> rfl
@[simp] theorem accept_lastCause (prog : List MicroOp) (s : State) : (accept prog s).lastCause = s.lastCause := by cases prog <;> rfl
@[simp] theorem accept_timeoutCount (prog : List MicroOp) (s : State) : (accept prog s).timeoutCount = s.timeoutCount := by cases prog <;> rfl
@[simp] theorem accept_latch (prog : List MicroOp) (s : State) : (accept prog s).latch = some (descriptor s) := by cases prog <;> rfl
@[simp] theorem accept_mprog (prog : List MicroOp) (s : State) : (accept prog s).mprog = prog := by cases prog <;> rfl
@[simp] theorem accept_seqPc (prog : List MicroOp) (s : State) : (accept prog s).seqPc = 0 := by cases prog <;> rfl
@[simp] theorem accept_waitCnt (prog : List MicroOp) (s : State) : (accept prog s).waitCnt = s.waitCnt := by cases prog <;> rfl
@[simp] theorem accept_dlyCnt (prog : List MicroOp) (s : State) : (accept prog s).dlyCnt = s.dlyCnt := by cases prog <;> rfl
@[simp] theorem accept_sr (prog : List MicroOp) (s : State) : (accept prog s).sr = s.sr := by cases prog <;> rfl
@[simp] theorem accept_bc (prog : List MicroOp) (s : State) : (accept prog s).bc = s.bc := by cases prog <;> rfl
@[simp] theorem accept_lRst (prog : List MicroOp) (s : State) : (accept prog s).lRst = s.lRst := by cases prog <;> rfl
@[simp] theorem accept_lCs (prog : List MicroOp) (s : State) : (accept prog s).lCs = s.lCs := by cases prog <;> rfl
@[simp] theorem accept_lDc (prog : List MicroOp) (s : State) : (accept prog s).lDc = s.lDc := by cases prog <;> rfl
@[simp] theorem accept_lBl (prog : List MicroOp) (s : State) : (accept prog s).lBl = s.lBl := by cases prog <;> rfl
@[simp] theorem accept_sck (prog : List MicroOp) (s : State) : (accept prog s).sck = s.sck := by cases prog <;> rfl
@[simp] theorem accept_mosi (prog : List MicroOp) (s : State) : (accept prog s).mosi = s.mosi := by cases prog <;> rfl
@[simp] theorem accept_trace (prog : List MicroOp) (s : State) : (accept prog s).trace = s.trace := by cases prog <;> rfl
@[simp] theorem accept_busLog (prog : List MicroOp) (s : State) : (accept prog s).busLog = s.busLog := by cases prog <;> rfl
@[simp] theorem accept_hostQueue (prog : List MicroOp) (s : State) : (accept prog s).hostQueue = s.hostQueue := by cases prog <;> rfl
@[simp] theorem accept_hostReads (prog : List MicroOp) (s : State) : (accept prog s).hostReads = s.hostReads := by cases prog <;> rfl
@[simp] theorem accept_tick (prog : List MicroOp) (s : State) : (accept prog s).tick = s.tick := by cases prog <;> rfl

/-! ### writeReg -/

@[simp] theorem writeReg_cfg (off : BitVec 4) (v : Word32) (s : State) : (writeReg off v s).cfg = s.cfg := by unfold writeReg; split_ifs <;> rfl
@[simp] theorem writeReg_pstate (off : BitVec 4) (v : Word32) (s : State) : (writeReg off v s).pstate = s.pstate := by unfold writeReg; split_ifs <;> rfl
@[simp] theorem writeReg_busy (off : BitVec 4) (v : Word32) (s : State) : (writeReg off v s).busy = s.busy := by unfold writeReg; split_ifs <;> rfl
@[simp] theorem writeReg_fIllegal (off : BitVec 4) (v : Word32) (s : State) : (writeReg off v s).fIllegal = s.fIllegal := by unfold writeReg; split_ifs <;> rfl
@[simp] theorem writeReg_fUbi (off : BitVec 4) (v : Word32) (s : State) : (writeReg off v s).fUbi = s.fUbi := by unfold writeReg; split_ifs <;> rfl
@[simp] theorem writeReg_fOverlap (off : BitVec 4) (v : Word32) (s : State) : (writeReg off v s).fOverlap = s.fOverlap := by unfold writeReg; split_ifs <;> rfl
@[simp] theorem writeReg_timeout (off : BitVec 4) (v : Word32) (s : State) : (writeReg off v s).timeout = s.timeout := by unfold writeReg; split_ifs <;> rfl
@[simp] theorem writeReg_lastCause (off : BitVec 4) (v : Word32) (s : State) : (writeReg off v s).lastCause = s.lastCause := by unfold writeReg; split_ifs <;> rfl
@[simp] theorem writeReg_timeoutCount (off : BitVec 4) (v : Word32) (s : State) : (writeReg off v s).timeoutCount = s.timeoutCount := by unfold writeReg; split_ifs <;> rfl
@[simp] theorem writeReg_latch (off : BitVec 4) (v : Word32) (s : State) : (writeReg off v s).latch = s.latch := by unfold writeReg; split_ifs <;> rfl
@[simp] theorem writeReg_mprog (off : BitVec 4) (v : Word32) (s : State) : (writeReg off v s).mprog = s.mprog := by unfold writeReg; split_ifs <;> rfl
@[simp] theorem writeReg_seqPc (off : BitVec 4) (v : Word32) (s : State) : (writeReg off v s).seqPc = s.seqPc := by unfold writeReg; split_ifs <;> rfl
@[simp] theorem writeReg_seqPhase (off : BitVec 4) (v : Word32) (s : State) : (writeReg off v s).seqPhase = s.seqPhase := by unfold writeReg; split_ifs <;> rfl
@[simp] theorem writeReg_waitCnt (off : BitVec 4) (v : Word32) (s : State) : (writeReg off v s).waitCnt = s.waitCnt := by unfold writeReg; split_ifs <;> rfl
@[simp] theorem writeReg_dlyCnt (off : BitVec 4) (v : Word32) (s : State) : (writeReg off v s).dlyCnt = s.dlyCnt := by unfold writeReg; split_ifs <;> rfl
@[simp] theorem writeReg_sr (off : BitVec 4) (v : Word32) (s : State) : (writeReg off v s).sr = s.sr := by unfold writeReg; split_ifs <;> rfl
@[simp] theorem writeReg_bc (off : BitVec 4) (v : Word32) (s : State) : (writeReg off v s).bc = s.bc := by unfold writeReg; split_ifs <;> rfl
@[simp] theorem writeReg_lRst (off : BitVec 4) (v : Word32) (s : State) : (writeReg off v s).lRst = s.lRst := by unfold writeReg; split_ifs <;> rfl
@[simp] theorem writeReg_lCs (off : BitVec 4) (v : Word32) (s : State) : (writeReg off v s).lCs = s.lCs := by unfold writeReg; split_ifs <;> rfl
@[simp] theorem writeReg_lDc (off : BitVec 4) (v : Word32) (s : State) : (writeReg off v s).lDc = s.lDc := by unfold writeReg; split_ifs <;> rfl
@[simp] theorem writeReg_lBl (off : BitVec 4) (v : Word32) (s : State) : (writeReg off v s).lBl = s.lBl := by unfold writeReg; split_ifs <;> rfl
@[simp] theorem writeReg_sck (off : BitVec 4) (v : Word32) (s : State) : (writeReg off v s).sck = s.sck := by unfold writeReg; split_ifs <;> rfl
@[simp] theorem writeReg_mosi (off : BitVec 4) (v : Word32) (s : State) : (writeReg off v s).mosi = s.mosi := by unfold writeReg; split_ifs <;> rfl
@[simp] theorem writeReg_trace (off : BitVec 4) (v : Word32) (s : State) : (writeReg off v s).trace = s.trace := by unfold writeReg; split_ifs <;> rfl
@[simp] theorem writeReg_busLog (off : BitVec 4) (v : Word32) (s : State) : (writeReg off v s).busLog = s.busLog := by unfold writeReg; split_ifs <;> rfl
@[simp] theorem writeReg_hostQueue (off : BitVec 4) (v : Word32) (s : State) : (writeReg off v s).hostQueue = s.hostQueue := by unfold writeReg; split_ifs <;> rfl
@[simp] theorem writeReg_hostReads (off : BitVec 4) (v : Word32) (s : State) : (writeReg off v s).hostReads = s.hostReads := by unfold writeReg; split_ifs <;> rfl
@[simp] theorem writeReg_tick (off : BitVec 4) (v : Word32) (s : State) : (writeReg off v s).tick = s.tick := by unfold writeReg; split_ifs <;> rfl

end Sys2Proof.Machine
end

