-- ==== Sys2Proof/Laws/Ops.lean ====
section
/-! SUPPORT. What each shared operation can do, said once: completion, acceptance, submission, the bounded waits, the
micro-operations. -/

namespace Sys2Proof.Machine

/-! ### Completion and acceptance -/

/-- The current micro-operation is not the last: SEQ_PC advances. -/
theorem microDone_of_lt {s : State} (h : s.seqPc + 1 < s.mprog.length) :
    microDone s = { s with seqPc := s.seqPc + 1, seqPhase := .ready } := by
  rw [microDone, if_neg (by omega)]

/-- The current micro-operation is the last: the operation completes. -/
theorem microDone_of_le {s : State} (h : s.mprog.length ≤ s.seqPc + 1) : microDone s = complete s := by
  rw [microDone, if_pos h]

/-- Completing a micro-operation either completes the operation or advances SEQ_PC. -/
theorem microDone_cases (s : State) :
    (s.mprog.length ≤ s.seqPc + 1 ∧ microDone s = complete s)
    ∨ (s.seqPc + 1 < s.mprog.length ∧ microDone s = { s with seqPc := s.seqPc + 1, seqPhase := .ready }) := by
  rcases Nat.lt_or_ge (s.seqPc + 1) s.mprog.length with h | h
  · exact .inr ⟨h, microDone_of_lt h⟩
  · exact .inl ⟨h, microDone_of_le h⟩

/-- Acceptance of a micro-program that is not empty. -/
theorem accept_of_ne_nil {prog : List MicroOp} (h : prog ≠ []) (s : State) :
    accept prog s
      = { s with latch := some (descriptor s), mprog := prog, seqPc := 0, busy := true, seqPhase := .ready } := by
  cases prog with
  | nil => exact absurd rfl h
  | cons op rest => rfl

/-- Acceptance of the empty micro-program completes in the same step. -/
theorem accept_nil (s : State) :
    accept [] s
      = { s with latch := some (descriptor s), mprog := [], seqPc := 0, busy := false, seqPhase := .idle } := rfl

/-! ### Submission: what a host operation does, by BUSY and PSTATE -/

theorem submitOp_of_busy {s : State} (h : s.busy = true) (raster : Bool) (prog : List MicroOp) :
    submitOp raster prog s = raiseFault .overlap s := by simp [submitOp, h]

theorem submitOp_raster_not_active {s : State} (h : s.busy = false) (hp : s.pstate ≠ .active) (prog : List MicroOp) :
    submitOp true prog s = raiseFault .ubi s := by simp [submitOp, h, hp]

theorem submitOp_raster_active {s : State} (h : s.busy = false) (hp : s.pstate = .active) (prog : List MicroOp) :
    submitOp true prog s = accept prog s := by simp [submitOp, h, hp]

theorem submitOp_init {s : State} (h : s.busy = false) (prog : List MicroOp) :
    submitOp false prog s = accept prog s := by simp [submitOp, h]

/-- A submission raises a fault or accepts with BUSY = 0. -/
theorem submitOp_cases (raster : Bool) (prog : List MicroOp) (s : State) :
    (s.busy = true ∧ submitOp raster prog s = raiseFault .overlap s)
    ∨ (s.busy = false ∧ raster = true ∧ s.pstate ≠ .active ∧ submitOp raster prog s = raiseFault .ubi s)
    ∨ (s.busy = false ∧ (raster = true → s.pstate = .active) ∧ submitOp raster prog s = accept prog s) := by
  unfold submitOp
  cases hb : s.busy
  · cases hr : raster
    · simp
    · by_cases hp : s.pstate = .active <;> simp [hp]
  · simp

/-- What the decoder's host operations do, by the micro-program they build. -/
theorem exec_host_cases {i : Instr} (h : i.isHost = true) (s : State) :
    ∃ raster prog, exec i s = .next (submitOp raster prog s)
      ∧ ((i = .init ∧ raster = false ∧ prog = initProgram s.cfg)
        ∨ (∃ x0 y0 x1 y1, i = .setwin x0 y0 x1 y1 ∧ raster = true
            ∧ prog = windowProgram s.cfg (coord x0) (coord y0) (coord x1) (coord y1))
        ∨ (∃ x0 y0 x1 y1 k, i = .fill x0 y0 x1 y1 k ∧ raster = true
            ∧ prog = fillProgram s.cfg (coord x0) (coord y0) (coord x1) (coord y1) k)
        ∨ (∃ k, i = .fillscr k ∧ raster = true ∧ prog = fillScreenProgram s.cfg k)) := by
  cases i with
  | init => exact ⟨_, _, rfl, .inl ⟨rfl, rfl, rfl⟩⟩
  | setwin x0 y0 x1 y1 => exact ⟨_, _, rfl, .inr (.inl ⟨x0, y0, x1, y1, rfl, rfl, rfl⟩)⟩
  | fill x0 y0 x1 y1 k => exact ⟨_, _, rfl, .inr (.inr (.inl ⟨x0, y0, x1, y1, k, rfl, rfl, rfl⟩))⟩
  | fillscr k => exact ⟨_, _, rfl, .inr (.inr (.inr ⟨k, rfl, rfl, rfl⟩))⟩
  | caset => simp [Instr.isHost] at h
  | raset => simp [Instr.isHost] at h
  | ramwr => simp [Instr.isHost] at h
  | slpout => simp [Instr.isHost] at h
  | dispon => simp [Instr.isHost] at h

/-- The decoder of descriptors answers host operations only. -/
theorem decodeDescriptor_isHost {d : Descriptor} {i : Instr} (h : decodeDescriptor d = some i) : i.isHost = true := by
  unfold decodeDescriptor at h
  split_ifs at h <;> simp only [Option.some.injEq] at h <;> subst h <;> rfl

/-- The micro-program an accepted submission builds is one of the four of 30_encoding R55. -/
def HostProgram (c : Config) (prog : List MicroOp) : Prop :=
  prog = initProgram c ∨ (∃ x0 y0 x1 y1, prog = windowProgram c x0 y0 x1 y1)
    ∨ ∃ x0 y0 x1 y1 k, prog = fillProgram c x0 y0 x1 y1 k

/-- What the write of OPW0 can do: record OVERLAP, ILLEGAL or UBI, or accept one of the four micro-programs with BUSY = 0 (INIT's
in any panel state, the others only while Active). -/
theorem submit_cases (s : State) :
    (∃ f : HostFault, submit s = .next (raiseFault f s))
    ∨ (∃ prog, s.busy = false ∧ HostProgram s.cfg prog ∧ (prog = initProgram s.cfg ∨ s.pstate = .active)
        ∧ submit s = .next (accept prog s)) := by
  unfold submit
  cases hd : decodeDescriptor (descriptor s) with
  | none =>
    left
    cases hb : s.busy
    · exact ⟨.illegal, by simp [submitIllegal, hb]⟩
    · exact ⟨.overlap, by simp [submitIllegal, hb]⟩
  | some i =>
    obtain ⟨raster, prog, he, hprog⟩ := exec_host_cases (decodeDescriptor_isHost hd) s
    simp only [he]
    have hhost : HostProgram s.cfg prog := by
      rcases hprog with ⟨_, _, rfl⟩ | ⟨x0, y0, x1, y1, _, _, rfl⟩ | ⟨x0, y0, x1, y1, k, _, _, rfl⟩ | ⟨k, _, _, rfl⟩
      · exact .inl rfl
      · exact .inr (.inl ⟨_, _, _, _, rfl⟩)
      · exact .inr (.inr ⟨_, _, _, _, _, rfl⟩)
      · exact .inr (.inr ⟨_, _, _, _, _, rfl⟩)
    rcases submitOp_cases raster prog s with ⟨_, h⟩ | ⟨_, _, _, h⟩ | ⟨hb, hact, h⟩
    · exact .inl ⟨.overlap, by rw [h]⟩
    · exact .inl ⟨.ubi, by rw [h]⟩
    · refine .inr ⟨prog, hb, hhost, ?_, by rw [h]⟩
      cases raster with
      | false =>
        rcases hprog with ⟨_, _, rfl⟩ | ⟨_, _, _, _, _, hr, _⟩ | ⟨_, _, _, _, _, _, hr, _⟩ | ⟨_, _, hr, _⟩
        · exact .inl rfl
        all_goals exact absurd hr (by decide)
      | true => exact .inr (hact rfl)

/-! ### Bounded waits and the sequencer -/

/-- What a poll finds (40_transport R76). -/
theorem pollWait_cases (d : Bool) (s : State) :
    (s.bc = 0 ∧ pollWait d s = .satisfied)
    ∨ (s.bc ≠ 0 ∧ (s.waitCnt = s.cfg.busyWaitLimit ∨ d = true) ∧ pollWait d s = .abandoned)
    ∨ (s.bc ≠ 0 ∧ s.waitCnt ≠ s.cfg.busyWaitLimit ∧ d = false ∧ pollWait d s = .again) := by
  unfold pollWait sbusy
  by_cases hb : s.bc = 0
  · simp [hb]
  · by_cases hw : s.waitCnt = s.cfg.busyWaitLimit
    · simp [hb, hw]
    · cases d <;> simp [hb, hw]

theorem pollPre_cases (d : Bool) (b : Byte) (s : State) :
    (s.bc = 0 ∧ pollPre d b s = issueByte b s)
    ∨ (s.bc ≠ 0 ∧ (s.waitCnt = s.cfg.busyWaitLimit ∨ d = true) ∧ pollPre d b s = issueByte b (recordTimeout .pre s))
    ∨ (s.bc ≠ 0 ∧ s.waitCnt ≠ s.cfg.busyWaitLimit ∧ d = false ∧ pollPre d b s = countPoll s) := by
  unfold pollPre
  rcases pollWait_cases d s with ⟨h, e⟩ | ⟨h, h', e⟩ | ⟨h, h', hd, e⟩
  · exact .inl ⟨h, by rw [e]⟩
  · exact .inr (.inl ⟨h, h', by rw [e]⟩)
  · exact .inr (.inr ⟨h, h', hd, by rw [e]⟩)

theorem pollPost_cases (d : Bool) (s : State) :
    (s.bc = 0 ∧ pollPost d s = microDone s)
    ∨ (s.bc ≠ 0 ∧ (s.waitCnt = s.cfg.busyWaitLimit ∨ d = true) ∧ pollPost d s = microDone (recordTimeout .post s))
    ∨ (s.bc ≠ 0 ∧ s.waitCnt ≠ s.cfg.busyWaitLimit ∧ d = false ∧ pollPost d s = countPoll s) := by
  unfold pollPost
  rcases pollWait_cases d s with ⟨h, e⟩ | ⟨h, h', e⟩ | ⟨h, h', hd, e⟩
  · exact .inl ⟨h, by rw [e]⟩
  · exact .inr (.inl ⟨h, h', by rw [e]⟩)
  · exact .inr (.inr ⟨h, h', hd, by rw [e]⟩)

/-- What a step of the sequencer can do: start the current micro-operation, or go on with a BYTE or a DELAY. -/
theorem seqMicro_next {d : Bool} {s t : State} (h : seqMicro d s = .next t) :
    (∃ op, s.seqPhase = .ready ∧ currentOp s = some op ∧ t = seqStart d op s)
    ∨ (∃ b, s.seqPhase = .waitPre ∧ currentOp s = some (.byte b) ∧ t = pollPre d b s)
    ∨ (∃ b, s.seqPhase = .waitPost ∧ currentOp s = some (.byte b) ∧ t = pollPost d s)
    ∨ (∃ us, s.seqPhase = .delaying ∧ currentOp s = some (.delay us) ∧ t = runDelay s) := by
  unfold seqMicro at h
  split at h <;> simp only [Host.Outcome.next.injEq, reduceCtorEq] at h
  · next op hp ho => exact .inl ⟨op, hp, ho, h.symm⟩
  · next b hp ho => exact .inr (.inl ⟨b, hp, ho, h.symm⟩)
  · next b hp ho => exact .inr (.inr (.inl ⟨b, hp, ho, h.symm⟩))
  · next us hp ho => exact .inr (.inr (.inr ⟨us, hp, ho, h.symm⟩))

/-- A sequencer whose phase fits its micro-operation never stops. -/
theorem seqMicro_of_fits {d : Bool} {s : State} (h : phaseFits s.seqPhase (currentOp s) = true) :
    ∃ t, seqMicro d s = .next t := by
  unfold phaseFits at h
  unfold seqMicro
  split at h <;> simp_all

/-- A wire command executed is the BYTE of its opcode begun. -/
theorem exec_of_decodeWire {c : Config} {b : Byte} {i : Instr} (h : decodeWire c b = some i) {s : State} (hc : s.cfg = c) :
    exec i s = .next (beginByte (Config.waitAbandoned s.tick) b s) := by
  unfold decodeWire at h
  split_ifs at h with h1 h2 h3 h4 h5 <;> simp only [Option.some.injEq] at h <;> subst h <;>
    simp [exec, execCaset, execRaset, execRamwr, execSlpout, execDispon, sendWireByte, *]

/-- The command the sequencer is about to send, taken apart. -/
theorem wireCommand_some {s : State} {i : Instr} (h : wireCommand s = some i) :
    ∃ b, s.seqPhase = .ready ∧ currentOp s = some (.byte b) ∧ s.lCs = LOW ∧ s.lDc = LOW
      ∧ decodeWire s.cfg b = some i := by
  unfold wireCommand at h
  split at h
  · next b hp ho =>
    split_ifs at h with hl
    exact ⟨b, hp, ho, hl.1, hl.2, h⟩
  · exact absurd h (by simp)

/-- Naming a command byte changes nothing of what the sequencer does: its step is the micro-operation's. -/
theorem sequencerStep_eq_seqMicro (s : State) : sequencerStep s = seqMicro (Config.waitAbandoned s.tick) s := by
  unfold sequencerStep
  cases h : wireCommand s with
  | none => rfl
  | some i =>
    obtain ⟨b, hp, ho, _, _, hd⟩ := wireCommand_some h
    simp [exec_of_decodeWire hd rfl, seqMicro, hp, ho, seqStart]

/-! ### The host -/

/-- An access that answers a next state is 32 bits wide and aligned. -/
theorem checkedAccess_next {off : BitVec 4} {size : Nat} {k : Out} {t : State}
    (h : checkedAccess off size k = .next t) : size = 4 ∧ off.extractLsb' 0 2 = 0 ∧ k = .next t := by
  unfold checkedAccess at h
  split_ifs at h with h1 h2
  exact ⟨by simpa using h1, by simpa using h2, h⟩

/-- What a step of the host can do: nothing, read, store without submitting, submit, poll, or reset the block. -/
theorem hostStep_next {s t : State} (h : hostStep s = .next t) :
    (s.hostQueue = [] ∧ t = s)
    ∨ (∃ off rest, s.hostQueue = .read off 4 :: rest
        ∧ t = { s with hostReads := s.hostReads ++ [readReg off s], hostQueue := rest })
    ∨ (∃ off v rest, s.hostQueue = .write off 4 v :: rest ∧ off.extractLsb' 2 2 ≠ 0
        ∧ t = writeReg off v { s with hostQueue := rest })
    ∨ (∃ off v rest, s.hostQueue = .write off 4 v :: rest ∧ off.extractLsb' 2 2 = 0
        ∧ submit { s with hostQueue := rest, opw0 := v } = .next t)
    ∨ (∃ rest q, s.hostQueue = .waitIdle :: rest
        ∧ t = { s with hostReads := s.hostReads ++ [statusWord s], hostQueue := q })
    ∨ (∃ rest, s.hostQueue = .reset :: rest ∧ t = blockReset { s with hostQueue := rest }) := by
  unfold hostStep at h
  split at h
  · next hq => exact .inl ⟨hq, by simpa using h.symm⟩
  · next op rest hq =>
    cases op with
    | read off size =>
      obtain ⟨rfl, _, hk⟩ := checkedAccess_next h
      exact .inr (.inl ⟨off, rest, hq, by simpa using hk.symm⟩)
    | write off size v =>
      obtain ⟨rfl, _, hk⟩ := checkedAccess_next h
      split_ifs at hk with h0
      · refine .inr (.inr (.inr (.inl ⟨off, v, rest, hq, h0, ?_⟩)))
        simpa [writeReg, h0] using hk
      · exact .inr (.inr (.inl ⟨off, v, rest, hq, h0, by simpa using hk.symm⟩))
    | waitIdle => exact .inr (.inr (.inr (.inr (.inl ⟨rest, _, hq, by simpa [hostOp] using h.symm⟩))))
    | reset => exact .inr (.inr (.inr (.inr (.inr ⟨rest, hq, by simpa [hostOp] using h.symm⟩))))

/-! ### The step -/

/-- The agent picked can step. -/
theorem pickAgent_mem {s : State} {a : Agent} (h : pickAgent s = some a) : a ∈ enabledAgents s := by
  unfold pickAgent at h
  split at h
  · simp at h
  · next b hb => simp_all
  · next b b' rest hb =>
    split_ifs at h with hc
    · simp only [Option.some.injEq] at h
      subst h
      rw [hb]
      simpa using hc
    · simp only [Option.some.injEq] at h
      subst h
      simp [hb]

/-- When each agent is able to step. -/
theorem mem_enabledAgents {s : State} {a : Agent} :
    a ∈ enabledAgents s ↔ (a = .shifter ∧ 0 < s.bc) ∨ (a = .sequencer ∧ s.busy = true) ∨ (a = .host ∧ s.hostQueue ≠ []) := by
  unfold enabledAgents
  by_cases h1 : 0 < s.bc <;> cases h2 : s.busy <;> cases h3 : s.hostQueue <;> cases a <;> simp [h1]

/-- A step of an agent that answers a next state, by the agent. -/
theorem agentStep_next {a : Option Agent} {s t : State} (h : agentStep a s = .next t) :
    (a = none ∧ t = s)
    ∨ (a = some .host ∧ hostStep s = .next t)
    ∨ (a = some .sequencer ∧ seqMicro (Config.waitAbandoned s.tick) s = .next t)
    ∨ (a = some .shifter ∧ t = bitStep s) := by
  unfold agentStep at h
  split at h
  · exact .inl ⟨rfl, by simpa using h.symm⟩
  · exact .inr (.inl ⟨rfl, h⟩)
  · exact .inr (.inr (.inl ⟨rfl, by rwa [sequencerStep_eq_seqMicro] at h⟩))
  · exact .inr (.inr (.inr ⟨rfl, by simpa using h.symm⟩))

/-- A step that answers a next state is one agent's, under a valid configuration. -/
theorem step_next {s t : State} (h : step s = .next t) :
    s.cfg.valid = true
    ∧ ((pickAgent s = none ∧ t = advance s)
      ∨ (pickAgent s = some .host ∧ hostStep (advance s) = .next t)
      ∨ (pickAgent s = some .sequencer ∧ s.busy = true
          ∧ seqMicro (Config.waitAbandoned (s.tick + 1)) (advance s) = .next t)
      ∨ (pickAgent s = some .shifter ∧ 0 < s.bc ∧ t = bitStep (advance s))) := by
  unfold step machineStep at h
  split_ifs at h with hv
  refine ⟨hv, ?_⟩
  cases hp : pickAgent s with
  | none => exact .inl ⟨rfl, by simpa [agentStep, hp] using h.symm⟩
  | some a =>
    have hm := mem_enabledAgents.mp (pickAgent_mem hp)
    cases a with
    | host => exact .inr (.inl ⟨rfl, by simpa [agentStep, hp] using h⟩)
    | sequencer =>
      refine .inr (.inr (.inl ⟨rfl, by simpa using hm, ?_⟩))
      simpa [agentStep, hp, sequencerStep_eq_seqMicro] using h
    | shifter => exact .inr (.inr (.inr ⟨rfl, by simpa using hm, by simpa [agentStep, hp] using h.symm⟩))

/-! ### Micro-programs and runs -/

/-- The micro-operations from SEQ_PC on begin with the current one. -/
theorem drop_of_currentOp {s : State} {op : MicroOp} (h : currentOp s = some op) :
    s.mprog.drop s.seqPc = op :: s.mprog.drop (s.seqPc + 1) := by
  unfold currentOp at h
  obtain ⟨hl, rfl⟩ := List.getElem?_eq_some_iff.mp h
  exact List.drop_eq_getElem_cons hl

/-- A run of one step more, of any machine, taken apart. -/
theorem runOf_succ_next {M : Host.Core} {k : Nat} {s t : M.State} (h : M.run (k + 1) s = .next t) :
    ∃ u, M.step s = .next u ∧ M.run k u = .next t := by
  rw [Host.Core.run] at h
  split at h
  · next u hu => exact ⟨u, hu, h⟩
  all_goals cases h

/-- A run of one step more, of any machine, put together. -/
theorem runOf_of_step {M : Host.Core} {k : Nat} {s u : M.State} (h : M.step s = .next u) :
    M.run (k + 1) s = M.run k u := by
  rw [Host.Core.run, h]

/-- A run of this machine taken apart. -/
theorem run_succ_next {k : Nat} {s t : State} (h : Sys2Proof.core.run (k + 1) s = .next t) :
    ∃ u : State, step s = .next u ∧ Sys2Proof.core.run k u = .next t :=
  runOf_succ_next (M := Sys2Proof.core) h

/-- A run of this machine put together. -/
theorem run_of_step {k : Nat} {s u : State} (h : step s = .next u) :
    Sys2Proof.core.run (k + 1) s = Sys2Proof.core.run k u :=
  runOf_of_step (M := Sys2Proof.core) h

end Sys2Proof.Machine
end

