-- ==== Sys2Proof/Laws/PerInstr.lean ====
section
/-! SUPPORT. Statements made of every instruction as syntax. Space: an instruction is written as a host descriptor exactly where
it is a host operation, and as a wire byte otherwise, whatever the configuration (20_memory R30 (a), (b)). -/

/-- The space an instruction belongs to: a descriptor for a host operation, a command byte for a wire command. -/
def Sys2Proof.Laws.Space.Statement (i : Sys2Proof.Instr) : Prop :=
  ∀ c : Sys2Proof.Config, (∃ d, Sys2Proof.encode c i = .descriptor d) ↔ i.isHost = true

theorem Sys2Proof.Laws.Space.init : Sys2Proof.Laws.Space.Statement .init :=
  fun _ => ⟨fun _ => rfl, fun _ => ⟨_, rfl⟩⟩

theorem Sys2Proof.Laws.Space.setwin (x0 y0 x1 y1 : Sys2Proof.Half) :
    Sys2Proof.Laws.Space.Statement (.setwin x0 y0 x1 y1) :=
  fun _ => ⟨fun _ => rfl, fun _ => ⟨_, rfl⟩⟩

theorem Sys2Proof.Laws.Space.fill (x0 y0 x1 y1 color : Sys2Proof.Half) :
    Sys2Proof.Laws.Space.Statement (.fill x0 y0 x1 y1 color) :=
  fun _ => ⟨fun _ => rfl, fun _ => ⟨_, rfl⟩⟩

theorem Sys2Proof.Laws.Space.fillscr (color : Sys2Proof.Half) : Sys2Proof.Laws.Space.Statement (.fillscr color) :=
  fun _ => ⟨fun _ => rfl, fun _ => ⟨_, rfl⟩⟩

theorem Sys2Proof.Laws.Space.caset : Sys2Proof.Laws.Space.Statement .caset := by
  intro c; simp [Sys2Proof.encode, Sys2Proof.Instr.isHost]

theorem Sys2Proof.Laws.Space.raset : Sys2Proof.Laws.Space.Statement .raset := by
  intro c; simp [Sys2Proof.encode, Sys2Proof.Instr.isHost]

theorem Sys2Proof.Laws.Space.ramwr : Sys2Proof.Laws.Space.Statement .ramwr := by
  intro c; simp [Sys2Proof.encode, Sys2Proof.Instr.isHost]

theorem Sys2Proof.Laws.Space.slpout : Sys2Proof.Laws.Space.Statement .slpout := by
  intro c; simp [Sys2Proof.encode, Sys2Proof.Instr.isHost]

theorem Sys2Proof.Laws.Space.dispon : Sys2Proof.Laws.Space.Statement .dispon := by
  intro c; simp [Sys2Proof.encode, Sys2Proof.Instr.isHost]
end

