-- ==== Sys2Proof/Laws/Programs.lean ====
section
/-! SUPPORT. The micro-programs of the host operations in closed form, one lemma per function: the clamp, the window, the fill,
and how the readings of a micro-program split over ++. -/

namespace Sys2Proof.Machine

/-! ### Readings of a micro-program split over ++ -/

theorem bytesOf_append (a b : List MicroOp) : bytesOf (a ++ b) = bytesOf a ++ bytesOf b := by
  induction a with
  | nil => rfl
  | cons op a ih => cases op <;> simp [bytesOf, ih]

theorem totalDelay_append (a b : List MicroOp) : totalDelay (a ++ b) = totalDelay a + totalDelay b := by
  induction a with
  | nil => simp [totalDelay]
  | cons op a ih => cases op <;> simp [totalDelay, ih, Nat.add_assoc]

theorem panelStates_append (a b : List MicroOp) : panelStates (a ++ b) = panelStates a ++ panelStates b := by
  induction a with
  | nil => rfl
  | cons op a ih => cases op <;> simp [panelStates, ih]

theorem finalPanel_append (p : PanelState) (a b : List MicroOp) :
    finalPanel p (a ++ b) = finalPanel (finalPanel p a) b := by
  induction a generalizing p with
  | nil => rfl
  | cons op a ih => cases op <;> simp [finalPanel, ih]

theorem frameRun_append (st : FrameAt) (a b : List MicroOp) :
    frameRun st (a ++ b) = (frameRun st a).bind fun st' => frameRun st' b := by
  induction a generalizing st with
  | nil => rfl
  | cons op a ih =>
    simp only [List.cons_append, frameRun]
    cases frameStep st op with
    | none => rfl
    | some st' => exact ih st'

/-! ### Micro-programs without STATE -/

theorem finalPanel_of_no_states {ops : List MicroOp} (h : panelStates ops = []) (p : PanelState) :
    finalPanel p ops = p := by
  induction ops generalizing p with
  | nil => rfl
  | cons op ops ih => cases op <;> simp_all [panelStates, finalPanel]

theorem panelStates_writeBytes (ps : List Byte) : panelStates (writeBytes ps) = [] := by
  induction ps with
  | nil => rfl
  | cons b ps ih => simpa [writeBytes, panelStates] using ih

theorem panelStates_scwp (op : Byte) (ps : List Byte) : panelStates (scwp op ps) = [] := by
  simp [scwp, panelStates_append, panelStates_writeBytes, panelStates]

theorem panelStates_waitMs (ms : Nat) : panelStates (waitMs ms) = [] := by
  unfold waitMs
  split_ifs <;> rfl

theorem panelStates_replayTable (t : List InitEntry) : panelStates (replayTable t) = [] := by
  induction t with
  | nil => rfl
  | cons e t ih =>
    rw [replayTable, List.flatMap_cons, panelStates_append, ← replayTable, ih, replayEntry, panelStates_append,
      panelStates_scwp, panelStates_waitMs]
    rfl

/-! ### The clamp (43_raster R99) -/

/-- A rectangle that is not empty, clamped. -/
theorem clamp_of_nonempty {c : Config} {x0 y0 x1 y1 : Nat} (hx : x0 < min x1 c.width) (hy : y0 < min y1 c.height) :
    clamp c x0 y0 x1 y1 = ⟨x0, y0, min x1 c.width, min y1 c.height, false⟩ := by
  simp only [clamp, Clamped.mk.injEq, true_and, Bool.or_eq_false_iff, decide_eq_false_iff_not]
  omega

/-- An empty rectangle. -/
theorem clamp_of_empty {c : Config} {x0 y0 x1 y1 : Nat} (h : min x1 c.width ≤ x0 ∨ min y1 c.height ≤ y0) :
    (clamp c x0 y0 x1 y1).empty = true := by
  simpa [clamp] using h

/-! ### The window and the fill (43_raster R100, R101, R104) -/

theorem windowProgram_of_nonempty {c : Config} {x0 y0 x1 y1 : Nat}
    (hx : x0 < min x1 c.width) (hy : y0 < min y1 c.height) :
    windowProgram c x0 y0 x1 y1 = windowMicroOps c x0 (min x1 c.width - 1) y0 (min y1 c.height - 1) := by
  simp [windowProgram, clamp_of_nonempty hx hy, windowMicroOps, addressWrites, sendCommand, scwp, writeBytes, lo8]

theorem windowProgram_of_empty {c : Config} {x0 y0 x1 y1 : Nat}
    (h : min x1 c.width ≤ x0 ∨ min y1 c.height ≤ y0) : windowProgram c x0 y0 x1 y1 = [] := by
  simp [windowProgram, clamp_of_empty h]

/-- Every pixel of the stream has the one colour, so only their number shows (43_raster R105). -/
theorem pixelStream_eq (c : Config) (x0 y0 x1 y1 : Nat) (color : Half) :
    pixelStream c x0 y0 x1 y1 color = solidPixels ((x1 - x0) * (y1 - y0)) color := by
  have solid : ∀ l : List (Nat × Nat), (l.flatMap fun _ => pixelBytes color) = solidPixels l.length color := by
    intro l
    induction l with
    | nil => rfl
    | cons p l ih =>
      rw [List.flatMap_cons, ih]
      simp [solidPixels, List.replicate_succ, pixelBytes, colorHi8, colorLo8]
  rw [pixelStream, solid]
  simp [pixelCoords]

theorem fillProgram_of_nonempty {c : Config} {x0 y0 x1 y1 : Nat} (color : Half)
    (hx : x0 < min x1 c.width) (hy : y0 < min y1 c.height) :
    fillProgram c x0 y0 x1 y1 color
      = windowMicroOps c x0 (min x1 c.width - 1) y0 (min y1 c.height - 1) ++ [.line .dc HIGH]
        ++ solidPixels ((min x1 c.width - x0) * (min y1 c.height - y0)) color ++ [.line .cs HIGH] := by
  unfold fillProgram
  simp only [clamp_of_nonempty hx hy, pixelStream_eq]
  rw [windowProgram_of_nonempty (by simpa using hx) (by simpa using hy)]
  simp

theorem fillProgram_of_empty {c : Config} {x0 y0 x1 y1 : Nat} (color : Half)
    (h : min x1 c.width ≤ x0 ∨ min y1 c.height ≤ y0) : fillProgram c x0 y0 x1 y1 color = [] := by
  simp [fillProgram, clamp_of_empty h]

/-- INIT's micro-program is never empty: INIT always runs (42_panel_init R91). -/
theorem initProgram_ne_nil (c : Config) : initProgram c ≠ [] := by simp [initProgram]

/-- One more pixel. -/
theorem solidPixels_succ (n : Nat) (color : Half) :
    solidPixels (n + 1) color
      = .byte (color.extractLsb' 8 8) :: .byte (color.extractLsb' 0 8) :: solidPixels n color := by
  simp [solidPixels, List.replicate_succ]

/-- No pixel. -/
theorem solidPixels_zero (color : Half) : solidPixels 0 color = [] := rfl

end Sys2Proof.Machine
end

