-- ==== Sys2Proof/Tests/Slice0.lean ====
section
/-! SUPPORT. Small tests on the configuration CFG-T of 95_test_vectors, expected values taken from there, and for every
statement with hypotheses a witness that they can be met. -/

namespace Sys2Proof.Tests

open Sys2Proof Sys2Proof.Machine

/-! ### The test configuration and states -/

/-- CFG-T (95_test_vectors). -/
def cfgT : Config where
  width := 240
  height := 240
  inv := false
  fSys := 125000000
  fTarget := 10000000
  divMaxExp := 8
  busyWaitLimit := 64
  unlockTable := [⟨0xA0, [], 0⟩]
  restTable := [⟨0xA1, [0x01, 0x02], 5⟩]
  opSlpout := 0x11
  opDispon := 0x29
  opCaset := 0x2A
  opRaset := 0x2B
  opRamwr := 0x2C
  tRstPreMs := 5
  tRstLowMs := 10
  tRstPostMs := 120
  tSlpoutMs := 120
  tDisponMs := 20
  blLevel := HIGH
  traversal := .rowMajor
  base := 0

/-- After block reset under CFG-T, the open draws all taken HIGH (SR 0). -/
def stateT : State :=
  { State.resetAt cfgT 0 with sr := 0, lRst := HIGH, lCs := HIGH, lDc := HIGH, mosi := HIGH }

/-- The same after INIT. -/
def activeT : State := { stateT with pstate := .active }

/-- In the middle of an operation of these micro-operations, at the first, with CS and DC LOW. -/
def runningT (ops : List MicroOp) : State :=
  { activeT with mprog := ops, busy := true, seqPhase := .ready, lCs := LOW, lDc := LOW }

/-- The same in the POST wait of its first byte, the byte just issued. -/
def postT (ops : List MicroOp) : State := { runningT ops with seqPhase := .waitPost, bc := 8, sr := 0xA5 }

/-- The same in a PRE wait. -/
def preT (ops : List MicroOp) : State := { postT ops with seqPhase := .waitPre }

/-- A host about to do one thing to an active block. -/
def hostT (op : HostOp) : State := { activeT with hostQueue := [op] }

/-- What a next state holds; none where there is no next state. -/
def after {α : Type} (o : Out) (f : State → α) : Option α :=
  match o with
  | .next t => some (f t)
  | .fault _ => none
  | .refused _ => none

/-- The refusal a step answers. -/
def refusal (o : Out) : Option Refusal :=
  match o with
  | .next _ => none
  | .fault _ => none
  | .refused r => some r

/-! ### Well-formedness: one ill-formed term for each check -/

theorem test_cfgT_valid : cfgT.valid = true := by decide
theorem test_refuses_width_zero : ({ cfgT with width := 0 } : Config).valid = false := by decide
theorem test_refuses_height_257 : ({ cfgT with height := 257 } : Config).valid = false := by decide
theorem test_refuses_target_zero : ({ cfgT with fTarget := 0 } : Config).valid = false := by decide
theorem test_refuses_divider_cap_one : ({ cfgT with divMaxExp := 0 } : Config).valid = false := by decide
theorem test_refuses_limit_zero : ({ cfgT with busyWaitLimit := 0 } : Config).valid = false := by decide
theorem test_refuses_short_sleep_out : ({ cfgT with tSlpoutMs := 119 } : Config).valid = false := by decide
theorem test_refuses_equal_opcodes :
    Instr.caset.wellFormed { cfgT with opRaset := 0x2A } = false ∧ Instr.caset.wellFormed cfgT = true := by decide
theorem test_refuses_backlight_line : (MicroOp.line .bl HIGH).built = false := by decide
theorem test_refuses_zero_delay : (MicroOp.delay 0).built = false ∧ (MicroOp.state .unpowered).built = false := by decide
theorem test_invalid_configuration_refused :
    refusal (step { stateT with cfg := { cfgT with fTarget := 0 } }) = some .invalidConfiguration := by decide

/-! ### Decoding: words written out bit by bit (30_encoding R50, R63, R66) -/

theorem test_decode_init_ignores_color : decodeTableWord 96 0xFFFF0001 = some .init := by decide
theorem test_decode_setwin :
    decodeTableWord 96 0x00F000F00000000000000002 = some (.setwin 0 0 240 240) := by decide
theorem test_decode_fill :
    decodeTableWord 96 0x0017000C0014000A07E00003 = some (.fill 10 20 12 23 0x07E0) := by decide
theorem test_decode_fillscr : decodeTableWord 32 0xF8000004 = some (.fillscr 0xF800) := by decide
theorem test_decode_wire :
    decodeTableWord 8 0x2A = some .caset ∧ decodeTableWord 8 0x2B = some .raset ∧ decodeTableWord 8 0x2C = some .ramwr
    ∧ decodeTableWord 8 0x11 = some .slpout ∧ decodeTableWord 8 0x29 = some .dispon ∧ decodeTableWord 8 0xA0 = none := by
  decide
theorem test_decode_reserved :
    decodeDescriptor ⟨0x00000000, 0, 0⟩ = none ∧ decodeDescriptor ⟨0x00000005, 0, 0⟩ = none
    ∧ decodeDescriptor ⟨0x00008002, 0, 0⟩ = none := by decide
/-- 30_encoding R50: the 96-bit pattern, most significant word first. -/
theorem test_descriptor_bits :
    (Descriptor.bits ⟨0x07E00003, 0x0014000A, 0x0017000C⟩) = 0x0017000C0014000A07E00003 := by decide
/-- 20_memory R33: byte lane 0 holds the low bits. -/
theorem test_byte_lanes : byteLane 0x07E00003 0 = 0x03 ∧ byteLane 0x07E00003 3 = 0x07 := by decide

/-! ### Host operations, one step each -/

/-- V-I1, V-I2: INIT from reset is accepted with 35 micro-operations; STATUS reads 0x00000008 with CS HIGH. -/
theorem test_init :
    after (step { stateT with hostQueue := [.write 0 4 0x00000001] }) (fun t => (statusWord t, t.mprog.length))
      = some (0x00000008, 35) := by decide
/-- V-D1: INIT placed as the first instruction after reset (70_reset R127) sets BUSY. -/
theorem test_init_first_after_reset :
    after (step (State.reset.withFetchWord 96 0x00000001)) (fun t => (t.busy, t.opw0)) = some (true, 0x00000001) := by
  decide
/-- V-R2: `SETWIN 5,5,6,6` sends the parameters 00 05 00 05 twice. -/
theorem test_setwin :
    after (exec (.setwin 5 5 6 6) activeT) (fun t => bytesOf t.mprog)
      = some [0x2A, 0x00, 0x05, 0x00, 0x05, 0x2B, 0x00, 0x05, 0x00, 0x05, 0x2C] := by decide
/-- V-R2: `SETWIN 250,0,260,10` sends nothing and leaves STATUS as it was. -/
theorem test_setwin_empty :
    after (exec (.setwin 250 0 260 10) activeT) (fun t => (statusWord t, t.mprog)) = some (0x00000004, []) := by decide
/-- V-R3: `FILL 10,20,12,23,0x07E0` has 35 events, 12 of them pixel bytes after the window's 11. -/
theorem test_fill :
    after (exec (.fill 10 20 12 23 0x07E0) activeT) (fun t => (t.mprog.length, bytesOf t.mprog))
      = some (35, [0x2A, 0x00, 0x0A, 0x00, 0x0B, 0x2B, 0x00, 0x14, 0x00, 0x16, 0x2C,
          0x07, 0xE0, 0x07, 0xE0, 0x07, 0xE0, 0x07, 0xE0, 0x07, 0xE0, 0x07, 0xE0]) := by decide
/-- P2: `FILL 238,0,300,1,0x001F` is clamped to two pixels. -/
theorem test_fill_clamped :
    after (exec (.fill 238 0 300 1 0x001F) activeT) (fun t => bytesOf t.mprog)
      = some [0x2A, 0x00, 0xEE, 0x00, 0xEF, 0x2B, 0x00, 0x00, 0x00, 0x00, 0x2C, 0x00, 0x1F, 0x00, 0x1F] := by decide
/-- 43_raster R106 on a panel of 2 by 1: the whole panel. -/
theorem test_fillscr_small_panel :
    after (exec (.fillscr 0xF800) { activeT with cfg := { cfgT with width := 2, height := 1 } }) (fun t => bytesOf t.mprog)
      = some [0x2A, 0x00, 0x00, 0x00, 0x01, 0x2B, 0x00, 0x00, 0x00, 0x00, 0x2C, 0xF8, 0x00, 0xF8, 0x00] := by decide
/-- V-D1: FILLSCR before INIT faults UBI. -/
theorem test_fillscr_before_init :
    after (step { stateT with hostQueue := [.write 0 4 0xF8000004] }) statusWord = some 0x00000440 := by decide
/-- V-D1: a reserved descriptor, and the priority of ILLEGAL over UBI. -/
theorem test_illegal :
    after (step { stateT with hostQueue := [.write 0 4 0x00008002] }) (fun t => (statusWord t, t.opw0))
      = some (0x00000220, 0x00008002) := by decide
/-- V-D1: OVERLAP whatever is written, the running operation untouched; OPW0 holds the refused word. -/
theorem test_overlap :
    after (agentStep (some .host) { runningT [.byte 0] with hostQueue := [.write 0 4 0x00000005] })
      (fun t => (statusWord t, t.opw0, t.mprog)) = some (0x0000069C, 0x00000005, [.byte 0]) := by decide
/-- V-D3: UBI then ILLEGAL leave both bits and LAST_CAUSE 1 (P3: 0x00000260). -/
theorem test_sticky :
    after (step { stateT with fUbi := true, lastCause := .ubi, hostQueue := [.write 0 4 0x00000005] }) statusWord
      = some 0x00000260 := by decide
/-- V-D4: a write to STATUS is ignored. -/
theorem test_status_write_ignored :
    after (step (hostT (.write 12 4 0xFFFFFFFF))) statusWord = some 0x00000004 := by decide
/-- V-D5: a write to OPW1 during a running operation does not change its micro-program. -/
theorem test_latch :
    after (agentStep (some .host) { runningT [.byte 0x07] with hostQueue := [.write 4 4 0], opw1 := 5 })
      (fun t => (t.opw1, t.mprog, t.busy)) = some (0, [.byte 0x07], true) := by decide
/-- 20_memory R32: a halfword access and a misaligned one are refused. -/
theorem test_undefined_accesses :
    refusal (step (hostT (.read 0 2))) = some .accessWidth
    ∧ refusal (step (hostT (.write 2 4 0))) = some .misaligned := by decide
/-- 20_memory R30: the window is the 16 bytes at BASE. -/
theorem test_register_window :
    hostOffset { cfgT with base := 0x1000 } 0x100C = some 12 ∧ hostOffset { cfgT with base := 0x1000 } 0x1010 = none := by
  decide

/-! ### Wire commands and micro-operations, one step each -/

/-- V-T3: BYTE(0x2A) with CS and DC LOW emits Byte(0x2A,L,L). -/
theorem test_caset :
    after (step (runningT [.byte 0x2A])) (fun t => (t.trace, t.sr, t.bc)) = some ([.byte 0x2A LOW LOW], 0x2A, 8) := by decide
theorem test_raset : after (exec .raset (runningT [])) (fun t => (t.sr, t.seqPhase)) = some (0x2B, .waitPost) := by decide
/-- V-F4: sendCommand(0x2C) ends with Byte(0x2C,L,L) and CS_OPEN = 1. -/
theorem test_ramwr :
    after (exec .ramwr (runningT [])) (fun t => (t.trace, csOpen t)) = some ([.byte 0x2C LOW LOW], true) := by decide
theorem test_slpout : after (exec .slpout (runningT [])) (fun t => (t.sr, t.bc)) = some (0x11, 8) := by decide
theorem test_dispon : after (exec .dispon (runningT [])) (fun t => (t.sr, t.bc)) = some (0x29, 8) := by decide
/-- V-T4: with INV = 1, LINE(CS, L) puts the pin HIGH; the event is still Line(CS,L) and CS_OPEN = 1. -/
theorem test_polarity :
    after (seqMicro false { runningT [.line .cs LOW] with cfg := { cfgT with inv := true }, lCs := HIGH })
      (fun t => (pin t .cs, t.trace, csOpen t)) = some (HIGH, [.line .cs LOW], true) := by decide
/-- V-T6: DELAY(10000) counts 1 250 000 cycles at 125 MHz, DELAY(1) one cycle at 3 Hz, DELAY(0) none. -/
theorem test_delay_cycles :
    delayCycles cfgT 10000 = 1250000 ∧ delayCycles { cfgT with fSys := 3 } 1 = 1 ∧ delayCycles cfgT 0 = 0 := by decide
/-- 40_transport R81: untimed, a DELAY takes one step and emits its event. -/
theorem test_delay :
    after (seqMicro false (runningT [.delay 120000])) (fun t => (t.trace, t.dlyCnt, t.busy))
      = some ([.delay 120000], 0, false) := by decide
/-- V-T7: a POST wait abandoned in the last byte of an operation: STATUS 0x00010904 but for CS_OPEN; the count saturates. -/
theorem test_timeout :
    after (seqMicro true { postT [.byte 0x1F] with lCs := HIGH }) statusWord = some 0x00010904
    ∧ countTimeout 0xFFFF = 0xFFFF := by decide
/-- 42_panel_init R89: STATE(4) makes STATUS[2:0] read 4, with no event. -/
theorem test_state :
    after (seqMicro false { runningT [.state .active] with pstate := .sleeping })
      (fun t => ((statusWord t).extractLsb' 0 3, t.trace)) = some (4, []) := by decide
/-- V-T2: 0xA5 puts its first bit, 1, on MOSI at the rising edge. -/
theorem test_bit_step :
    after (agentStep (some .shifter) { postT [.byte 0] with sr := 0xA5 }) (fun t => (t.busLog, t.sr, t.bc, t.sck))
      = some ([(LOW, HIGH), (HIGH, HIGH)], 0x4A, 7, HIGH) := by decide

/-! ### Tables of 95_test_vectors -/

/-- V-T1: the divider. -/
theorem test_divider :
    divider cfgT = 8
    ∧ divider { cfgT with fTarget := 100000000 } = 2
    ∧ divider { cfgT with fTarget := 490196 } = 128
    ∧ divider { cfgT with fTarget := 1000 } = 256
    ∧ divider { cfgT with fSys := 1000, fTarget := 1, divMaxExp := 10 } = 512 := by decide
/-- V-F1: the panel view of SCWP(0x36, [0x08]). -/
theorem test_scwp :
    panelView HIGH (microEvents HIGH HIGH (scwp 0x36 [0x08])) = [.cmd 0x36, .data 0x08]
    ∧ (scwp 0xA0 []).length = 5 := by decide
/-- V-F5: the second sendData sends its byte with CS HIGH, and it is lost. -/
theorem test_send_data_lost :
    microEvents HIGH HIGH (sendCommand 0x3A ++ sendData 0x55 ++ sendData 0x66)
      = [.line .cs LOW, .line .dc LOW, .byte 0x3A LOW LOW, .line .dc HIGH, .byte 0x55 LOW HIGH, .line .cs HIGH,
         .line .dc HIGH, .byte 0x66 HIGH HIGH, .line .cs HIGH]
    ∧ panelView HIGH (microEvents HIGH HIGH (sendCommand 0x3A ++ sendData 0x55 ++ sendData 0x66))
      = [.cmd 0x3A, .data 0x55] := by decide
/-- V-I3: the panel view of INIT. -/
theorem test_init_panel_view :
    panelView HIGH (microEvents HIGH HIGH (initProgram cfgT))
      = [.gap 5000, .reset, .gap 10000, .gap 120000, .cmd 0xA0, .cmd 0xA1, .data 0x01, .data 0x02, .gap 5000,
         .cmd 0x11, .gap 120000, .cmd 0x29, .gap 20000] := by decide
/-- V-T5, V-F6: the wire view drops a Line event that is no edge. -/
theorem test_wire_view :
    wireView ⟨HIGH, LOW, LOW, HIGH⟩ [.line .cs LOW, .line .dc LOW, .byte 0x2A LOW LOW, .line .dc HIGH]
      = [.byte 0x2A LOW LOW, .line .dc HIGH] := by decide
/-- V-R1: four rows of the clamp table. -/
theorem test_clamp :
    clamp cfgT 0 0 300 300 = ⟨0, 0, 240, 240, false⟩ ∧ (clamp cfgT 240 0 241 10).empty = true
    ∧ (clamp cfgT 20 10 10 20).empty = true ∧ clamp cfgT 100 50 65535 65535 = ⟨100, 50, 240, 240, false⟩ := by decide
/-- V-R4: 0x1234 is R 2, G 17, B 20, and back. -/
theorem test_colour :
    colorRed 0x1234 = 2 ∧ colorGreen 0x1234 = 17 ∧ colorBlue 0x1234 = 20 ∧ composeColor 2 17 20 = 0x1234
    ∧ colorRed 0xF800 = 31 ∧ colorGreen 0x07E0 = 63 ∧ colorBlue 0x001F = 31 := by decide
/-- 43_raster R105: row-major order. -/
theorem test_row_major : pixelCoords .rowMajor 10 20 12 22 = [(10, 20), (11, 20), (10, 21), (11, 21)] := by decide
/-- V-D2: assembler text, with its words. -/
theorem test_assembler_text :
    (parseStmt ['F','I','L','L','P','X',' ','5',',','7',',','0','x','F','F','F','F']).bind assemble
      = some [.write 4 4 0x00070005, .write 8 4 0x00080006, .write 0 4 0xFFFF0003]
    ∧ (parseStmt ['C','L','E','A','R']).bind assemble = some [.write 0 4 0x00000004] := by decide
/-- 30_encoding R58: operands out of range and unknown mnemonics are refused. -/
theorem test_assembler_refuses :
    assemble (.fillscr 65536) = none ∧ assemble (.fillPx 65535 0 1) = none ∧ parseStmt ['N','O','P'] = none := by decide
/-- 70_reset R138: CFG-T's delays are 280 ms. -/
theorem test_init_delay : initDelayMs cfgT = 280 ∧ shiftCycles cfgT (initProgram cfgT) = 384 := by decide
/-- V-T7: in the timed reading with BUSY_WAIT_LIMIT at 0 the first busy poll of a POST wait is abandoned; at 64 it counts. -/
theorem test_timed_poll :
    (cycle ⟨{ postT [.byte 0x1F] with cfg := { cfgT with busyWaitLimit := 0 } }, 0⟩).core.timeout = true
    ∧ (cycle ⟨postT [.byte 0x1F], 0⟩).core.waitCnt = 1 := by decide

/-- 40_transport R69, R78 in the timed reading: a byte issued over one in flight, after an abandoned PRE wait, begins at bit 7 with no
cycle of its first bit step spent. -/
theorem test_timed_overwrite :
    (let t := cycle ⟨{ preT [.byte 0x1F] with waitCnt := 64, bc := 3 }, 7⟩
     (t.core.sr, t.core.bc, t.sub, t.core.timeoutCount)) = (0x1F, 8, 0, 1) := by decide

/-! ### Witnesses: the hypotheses of each statement can be met, each clause at a boundary -/

/-- A state that meets the invariant, at rest. -/
theorem test_rest_meets_invariant : Inv activeT := by constructor <;> decide
/-- States that meet the invariant in each phase of an operation. -/
theorem test_line_meets_invariant : Inv (runningT [.line .cs HIGH]) := by constructor <;> decide
theorem test_pre_wait_meets_invariant : Inv { preT [.byte 0x2A] with waitCnt := 64 } := by constructor <;> decide
theorem test_post_wait_meets_invariant : Inv (postT [.byte 0x2A, .line .cs HIGH]) := by constructor <;> decide
theorem test_delay_meets_invariant :
    Inv { runningT [.delay 1] with seqPhase := .delaying, dlyCnt := 1 } := by constructor <;> decide

theorem test_meets_ResetMeetsInvariant : cfgT.valid = true ∧ Config.thisHardware.valid = true := by decide
theorem test_meets_BlockResetStopsEverything :
    ({ runningT [.byte 0] with hostQueue := [.reset, .waitIdle] } : State).hostQueue = .reset :: [.waitIdle] := by decide
theorem test_meets_StepIsOneAgentsStep :
    activeT.cfg.valid = true ∧ ({ cfgT with width := 0 } : Config).valid = false
    ∧ pickAgent (hostT .waitIdle) = some .host ∧ pickAgent (runningT [.line .cs LOW]) = some .sequencer
    ∧ pickAgent { activeT with bc := 1 } = some .shifter ∧ pickAgent activeT = none := by decide
theorem test_meets_StepRunsSubmittedOperation :
    activeT.cfg.valid = true ∧ pickAgent (hostT (.write 0 4 0xFFFF0004)) = some .host
    ∧ (hostT (.write 0 4 0xFFFF0004)).hostQueue = .write 0 4 0xFFFF0004 :: []
    ∧ decodeDescriptor ⟨0xFFFF0004, activeT.opw1, activeT.opw2⟩ = some (.fillscr 0xFFFF) := by decide
theorem test_meets_StepRunsWireCommand :
    (runningT [.byte 0x2C]).cfg.valid = true ∧ pickAgent (runningT [.byte 0x2C]) = some .sequencer
    ∧ (runningT [.byte 0x2C]).seqPhase = .ready ∧ currentOp (runningT [.byte 0x2C]) = some (.byte 0x2C)
    ∧ (runningT [.byte 0x2C]).lCs = LOW ∧ (runningT [.byte 0x2C]).lDc = LOW
    ∧ decodeWire (runningT [.byte 0x2C]).cfg 0x2C = some .ramwr := by decide
theorem test_meets_DecodeOfEncode :
    Instr.dispon.wellFormed cfgT = true ∧ (Instr.fill 0 0 65535 65535 0xFFFF).wellFormed { cfgT with opRaset := 0x2A } = true := by
  decide
theorem test_meets_ReservedDescriptorsExactly :
    decodeDescriptor ⟨0x00000000, 0, 0⟩ = none ∧ decodeDescriptor ⟨0x00000005, 0, 0⟩ = none
    ∧ decodeDescriptor ⟨0x0000000F, 0, 0⟩ = none ∧ decodeDescriptor ⟨0x00000011, 0, 0⟩ = none
    ∧ decodeDescriptor ⟨0x00008004, 0, 0⟩ = none ∧ decodeDescriptor ⟨0xFFFF0001, 0, 0⟩ ≠ none
    ∧ decodeDescriptor ⟨0x00000004, 0, 0⟩ ≠ none := by decide
theorem test_meets_IgnoredFieldsDoNotMatter :
    decodeDescriptor ⟨0xFFFF0003, 0xFFFFFFFF, 0⟩ = some (.fill 65535 65535 0 0 0xFFFF) := by decide
theorem test_meets_AssembledDescriptorsDecode :
    (65535 < 65536) ∧ (65536 ≤ 65536) ∧ assemble (.setwin 0 0 0 65536) = none
    ∧ assemble .init = some [.write 0 4 0x00000001] ∧ assemble (.fillscr 65535) = some [.write 0 4 0xFFFF0004]
    ∧ assemble (.fill 65535 0 65535 65535 65535)
      = some [.write 4 4 0x0000FFFF, .write 8 4 0xFFFFFFFF, .write 0 4 0xFFFF0003] := by decide

theorem test_meets_InitAccepted : stateT.busy = false ∧ activeT.busy = false := by decide
theorem test_meets_SetwinAccepted :
    activeT.busy = false ∧ activeT.pstate = .active ∧ (239 : Half).toNat < min (240 : Half).toNat activeT.cfg.width
    ∧ (239 : Half).toNat < min (65535 : Half).toNat activeT.cfg.height := by decide
theorem test_meets_FillAccepted :
    activeT.busy = false ∧ activeT.pstate = .active ∧ (0 : Half).toNat < min (1 : Half).toNat activeT.cfg.width
    ∧ (239 : Half).toNat < min (300 : Half).toNat activeT.cfg.height := by decide
theorem test_meets_FillscrAccepted :
    activeT.busy = false ∧ activeT.pstate = .active ∧ activeT.cfg.valid = true := by decide
theorem test_meets_EmptyRasterCompletesAtOnce :
    activeT.busy = false ∧ activeT.pstate = .active ∧ min (241 : Half).toNat activeT.cfg.width ≤ (240 : Half).toNat
    ∧ min (10 : Half).toNat activeT.cfg.height ≤ (10 : Half).toNat := by decide
theorem test_meets_AcceptedProgramIsExpandOfLatch :
    (let s : State := { stateT with opw0 := 0x00000001 }
     s.busy = false ∧ decodeDescriptor ⟨s.opw0, s.opw1, s.opw2⟩ = some .init)
    ∧ (let s : State := { activeT with opw0 := 0x00000002, opw2 := 0x00010001 }
       s.busy = false ∧ decodeDescriptor ⟨s.opw0, s.opw1, s.opw2⟩ = some (.setwin 0 0 1 1) ∧ s.pstate = .active) := by
  decide
theorem test_meets_FillscrIsFillOfThePanel : activeT.cfg.valid = true := by decide
theorem test_meets_ClampLaws :
    min (241 : Half).toNat activeT.cfg.width = min (65535 : Half).toNat activeT.cfg.width
    ∧ min (240 : Half).toNat activeT.cfg.height = min (241 : Half).toNat activeT.cfg.height
    ∧ activeT.cfg.width = 240 ∧ activeT.cfg.height = 240 := by decide
theorem test_meets_OverlapRecorded :
    (runningT [.byte 0]).busy = true ∧ Instr.init.isHost = true
    ∧ ({ runningT [.byte 0] with hostQueue := [.write 0 4 5] } : State).hostQueue = .write 0 4 5 :: [] := by decide
theorem test_meets_IllegalRecorded :
    (hostT (.write 0 4 0x10)).busy = false ∧ (hostT (.write 0 4 0x10)).hostQueue = .write 0 4 0x10 :: []
    ∧ (0x00000010 : Word32).extractLsb' 4 12 ≠ 0
    ∧ ((0x00000005 : Word32).extractLsb' 0 4 ≠ 1 ∧ (0x00000005 : Word32).extractLsb' 0 4 ≠ 2
      ∧ (0x00000005 : Word32).extractLsb' 0 4 ≠ 3 ∧ (0x00000005 : Word32).extractLsb' 0 4 ≠ 4) := by decide
theorem test_meets_UseBeforeInitRecorded :
    (let s : State := { stateT with pstate := .sleeping, hostQueue := [.write 0 4 0xFFFF0002] }
     s.busy = false ∧ s.pstate ≠ .active ∧ s.hostQueue = .write 0 4 0xFFFF0002 :: [])
    ∧ (0xFFFF0002 : Word32).extractLsb' 4 12 = 0 ∧ (0xFFFF0002 : Word32).extractLsb' 0 4 = 2
    ∧ (0x00000004 : Word32).extractLsb' 4 12 = 0 ∧ (0x00000004 : Word32).extractLsb' 0 4 = 4 := by decide

theorem test_meets_HostReadsGiveTheRegister :
    (hostT (.read 0 4)).hostQueue = .read 0 4 :: [] ∧ (hostT (.read 4 4)).hostQueue = .read 4 4 :: []
    ∧ (hostT (.read 8 4)).hostQueue = .read 8 4 :: [] ∧ (hostT (.read 12 4)).hostQueue = .read 12 4 :: [] := by decide
theorem test_meets_HostWritesOnlyStore :
    (hostT (.write 4 4 1)).hostQueue = .write 4 4 1 :: [] ∧ (hostT (.write 8 4 1)).hostQueue = .write 8 4 1 :: []
    ∧ (hostT (.write 12 4 1)).hostQueue = .write 12 4 1 :: [] := by decide
theorem test_meets_UndefinedAccessesRefused :
    (hostT (.read 0 2)).hostQueue = .read 0 2 :: [] ∧ (2 : Nat) ≠ 4 ∧ (hostT (.write 13 4 0)).hostQueue = .write 13 4 0 :: []
    ∧ (13 : BitVec 4).extractLsb' 0 2 ≠ 0 := by decide
theorem test_meets_WaitIdlePollsBusy :
    (hostT .waitIdle).hostQueue = .waitIdle :: [] ∧ (hostT .waitIdle).busy = false ∧ (runningT []).busy = true := by decide
theorem test_meets_StatusFieldsAtTheirBits :
    stateT.pstate = .unpowered ∧ activeT.pstate = .active ∧ ({ stateT with pstate := .resetting } : State).pstate = .resetting
    ∧ ({ stateT with pstate := .configuring } : State).pstate = .configuring
    ∧ ({ stateT with pstate := .sleeping } : State).pstate = .sleeping
    ∧ stateT.lastCause = .none ∧ ({ stateT with lastCause := .illegal } : State).lastCause = .illegal
    ∧ ({ stateT with lastCause := .ubi } : State).lastCause = .ubi
    ∧ ({ stateT with lastCause := .overlap } : State).lastCause = .overlap
    ∧ ({ stateT with lastCause := .timeout } : State).lastCause = .timeout := by decide
theorem test_meets_HostCannotDisturbRunningOperation :
    (let s : State := { runningT [.byte 0] with hostQueue := [.write 4 4 7] }
     s.busy = true ∧ noResetNext s = true ∧ ∃ t, hostStep s = .next t) := ⟨by decide, by decide, _, rfl⟩

theorem test_meets_MicroOperationCompletes :
    (runningT [.byte 0, .byte 1]).seqPc + 1 < (runningT [.byte 0, .byte 1]).mprog.length
    ∧ (runningT [.byte 0]).mprog.length ≤ (runningT [.byte 0]).seqPc + 1 := by decide
theorem test_meets_LineDrivesOneLine :
    (runningT [.line .bl LOW]).seqPhase = .ready ∧ currentOp (runningT [.line .bl LOW]) = some (.line .bl LOW)
    ∧ ∃ t, sequencerStep (runningT [.line .bl LOW]) = .next t := ⟨by decide, by decide, _, rfl⟩
theorem test_meets_StateSetsPanelState :
    (runningT [.state .resetting]).seqPhase = .ready
    ∧ currentOp (runningT [.state .resetting]) = some (.state .resetting) := by decide
theorem test_meets_DelayCompletesInOneStep :
    (runningT [.delay 0]).seqPhase = .ready ∧ currentOp (runningT [.delay 0]) = some (.delay 0) := by decide
theorem test_meets_TimedDelayLastsItsCycles :
    (runningT [.delay 1]).busy = true ∧ (runningT [.delay 1]).bc = 0 ∧ (runningT [.delay 1]).seqPhase = .ready
    ∧ currentOp (runningT [.delay 1]) = some (.delay 1) ∧ delayCycles cfgT 1 = 125 := by decide
theorem test_meets_ByteIssues :
    (runningT [.byte 0xFF]).seqPhase = .ready ∧ currentOp (runningT [.byte 0xFF]) = some (.byte 0xFF)
    ∧ (runningT [.byte 0xFF]).bc = 0 ∧ ({ runningT [.byte 0xFF] with bc := 1 } : State).bc ≠ 0
    ∧ currentOp { runningT [.byte 0xFF] with bc := 1 } = some (.byte 0xFF) := by decide
theorem test_meets_PostWaitPolls :
    (postT [.byte 0]).seqPhase = .waitPost ∧ currentOp (postT [.byte 0]) = some (.byte 0) ∧ (postT [.byte 0]).bc ≠ 0
    ∧ ({ postT [.byte 0] with bc := 0 } : State).bc = 0
    ∧ ({ postT [.byte 0] with waitCnt := 64 } : State).waitCnt = cfgT.busyWaitLimit := by decide
theorem test_meets_PreWaitPolls :
    (preT [.byte 0]).seqPhase = .waitPre ∧ currentOp (preT [.byte 0]) = some (.byte 0) ∧ (preT [.byte 0]).bc ≠ 0
    ∧ ({ preT [.byte 0] with bc := 0 } : State).bc = 0
    ∧ ({ preT [.byte 0] with waitCnt := 64 } : State).waitCnt = cfgT.busyWaitLimit := by decide
theorem test_meets_WireCommandsIssueTheirOpcode : (runningT [.byte 0x2A]).bc = 0 := by decide
theorem test_meets_WireCommandsWaitForTheShifter :
    (postT []).cfg.valid = true ∧ (postT []).bc ≠ 0 ∧ Instr.slpout.isHost = false
    ∧ encode (postT []).cfg .slpout = .wire 0x11 := by decide
theorem test_meets_BitStepShiftsOneBit : 0 < ({ postT [] with bc := 1 } : State).bc := by decide
theorem test_meets_ByteShiftsOutMsbFirst : (postT []).bc = 8 := by decide
theorem test_meets_DividerIsRoundedDown :
    (let c : Config := { cfgT with fTarget := 62500001 }
     c.fSys / c.fTarget < 2)
    ∧ (let c : Config := { cfgT with fTarget := 62500000 }
       2 ≤ c.fSys / c.fTarget) := by decide
theorem test_meets_TimedReadingNeverTimesOut :
    Inv (postT [.byte 0]) ∧ TimedQuiet ⟨postT [.byte 0], 0⟩ ∧ TimedQuiet ⟨activeT, 0⟩
    ∧ byteCycles (postT [.byte 0]).cfg ≤ (postT [.byte 0]).cfg.busyWaitLimit :=
  ⟨by constructor <;> decide, fun _ => by decide, fun h => absurd rfl h, by decide⟩

theorem test_meets_InitTraceShape : cfgT.valid = true ∧ ({ cfgT with tRstPreMs := 0 } : Config).valid = true := by decide
theorem test_meets_InitLengthAndStates :
    cfgT.valid = true ∧ ({ cfgT with unlockTable := [], restTable := [] } : Config).valid = true := by decide
theorem test_meets_ProgramsKeepFrames :
    (FrameAt.closed = .closed ∨ FrameAt.closed = .commandSent)
    ∧ (FrameAt.commandSent = .closed ∨ FrameAt.commandSent = .commandSent)
    ∧ 239 < min 240 cfgT.width ∧ 0 < min 1 cfgT.height ∧ min 300 cfgT.width ≤ 240 := by decide
theorem test_meets_FillLengthAndBytes : 239 < min 240 cfgT.width ∧ 0 < min 65535 cfgT.height := by decide
theorem test_meets_FillPanelView : 0 < min 1 cfgT.width ∧ 239 < min 300 cfgT.height := by decide

theorem test_meets_StepKeepsInvariant :
    Inv (runningT [.line .cs HIGH]) ∧ (∃ t, step (runningT [.line .cs HIGH]) = .next t)
    ∧ Inv (hostT (.write 0 4 0xFFFF0001)) ∧ ∃ t, step (hostT (.write 0 4 0xFFFF0001)) = .next t :=
  ⟨by constructor <;> decide, ⟨_, rfl⟩, by constructor <;> decide, ⟨_, rfl⟩⟩
theorem test_meets_InvariantStatesNeverFault : Inv (postT [.byte 0x2A]) := by constructor <;> decide
theorem test_meets_StickyBitsStay :
    (let s : State := { hostT (.write 0 4 0) with fIllegal := true, fUbi := true, fOverlap := true, timeout := true }
     noResetNext s = true ∧ s.fIllegal = true ∧ s.fUbi = true ∧ s.fOverlap = true ∧ s.timeout = true
       ∧ ∃ t, agentStep (some .host) s = .next t) := ⟨by decide, by decide, by decide, by decide, by decide, _, rfl⟩
theorem test_meets_PanelStateChangesOnlyByState :
    (∃ t, agentStep (some .sequencer) (runningT [.state .resetting]) = .next t
      ∧ t.pstate ≠ (runningT [.state .resetting]).pstate)
    ∧ ∃ t, agentStep (some .host) (hostT .reset) = .next t ∧ t.pstate ≠ (hostT .reset).pstate :=
  ⟨⟨_, rfl, by decide⟩, _, rfl, by decide⟩
theorem test_meets_RunningProgramIsFixed :
    (∃ t, agentStep (some .sequencer) (runningT [.line .dc LOW, .byte 0]) = .next t
      ∧ (runningT [.line .dc LOW, .byte 0]).busy = true ∧ t.busy = true)
    ∧ ∃ t, agentStep (some .shifter) (postT [.byte 0]) = .next t ∧ (postT [.byte 0]).busy = true ∧ t.busy = true :=
  ⟨⟨_, rfl, by decide⟩, _, rfl, by decide⟩
theorem test_meets_BusyFallsAtTheEnd :
    (∃ t, agentStep (some .sequencer) (runningT [.line .cs HIGH]) = .next t
      ∧ (runningT [.line .cs HIGH]).busy = true ∧ t.busy = false)
    ∧ ∃ t, agentStep (some .host) { runningT [.byte 0] with hostQueue := [.reset] } = .next t ∧ t.busy = false :=
  ⟨⟨_, rfl, by decide⟩, _, rfl, by decide⟩
theorem test_meets_ConfigurationNeverChanges : ∃ t, step (hostT .reset) = .next t := ⟨_, rfl⟩
/-- A first timeout, and a later one whose count is already saturated, so that only its event shows. -/
theorem test_meets_TimeoutsOnlyWhileShifting :
    (∃ t, agentStep (some .sequencer) { postT [.byte 0] with waitCnt := 64 } = .next t
      ∧ ({ postT [.byte 0] with waitCnt := 64 } : State).timeout = false ∧ t.timeout = true ∧ t.timeoutCount ≠ 0)
    ∧ (∃ t, agentStep (some .sequencer) { preT [.byte 0] with waitCnt := 64, timeout := true, timeoutCount := 0xFFFF } = .next t
      ∧ t.trace = [.timeout .pre, .byte 0 LOW LOW] ∧ t.timeoutCount = 0xFFFF)
    ∧ ∃ t, agentStep (some .host) { hostT .reset with timeoutCount := 3 } = .next t ∧ noResetNext (hostT .reset) = false :=
  ⟨⟨_, rfl, by decide, by decide, by decide⟩, ⟨_, rfl, by decide, by decide⟩, _, rfl, by decide⟩
theorem test_meets_NoLineChangesDuringAByte :
    Inv (runningT [.line .dc HIGH]) ∧ Quiet (runningT [.line .dc HIGH])
    ∧ (∃ t, step (runningT [.line .dc HIGH]) = .next t
      ∧ t.trace = (runningT [.line .dc HIGH]).trace ++ [.line .dc HIGH] ∧ (runningT [.line .dc HIGH]).timeout = false)
    ∧ Quiet (postT [.byte 0]) :=
  ⟨by constructor <;> decide, fun _ h => absurd rfl h, ⟨_, rfl, by decide, by decide⟩, fun _ _ => by decide⟩
/-- A step of the host (a refused submission) while BUSY = 1, a run of the block alone, and a run in which the host polls. -/
theorem test_meets_RunEmitsTheProgramInOrder :
    (∃ t, agentStep (some .host) { runningT [.byte 0] with hostQueue := [.write 0 4 1] } = .next t
      ∧ (runningT [.byte 0]).busy = true ∧ noResetNext { runningT [.byte 0] with hostQueue := [.write 0 4 1] } = true
      ∧ t.timeout = false)
    ∧ ((runningT [.line .dc HIGH, .state .active]).hostQueue.all passiveOp = true
      ∧ ∃ t, Sys2Proof.core.run 2 (runningT [.line .dc HIGH, .state .active]) = .next t ∧ t.timeout = false)
    ∧ ([HostOp.write 4 4 0, .waitIdle, .read 12 4].all passiveOp = true
      ∧ ∃ t, Sys2Proof.core.run 3 { activeT with hostQueue := [.write 4 4 0, .waitIdle, .read 12 4] } = .next t
        ∧ t.timeout = false) :=
  ⟨⟨_, rfl, by decide, by decide, by decide⟩, ⟨by decide, _, rfl, rfl⟩, by decide, _, rfl, rfl⟩
theorem test_meets_OperationsRunToCompletion :
    Inv (postT [.byte 0x2A, .line .cs HIGH]) ∧ (postT [.byte 0x2A, .line .cs HIGH]).hostQueue = [] :=
  ⟨by constructor <;> decide, by decide⟩

end Sys2Proof.Tests
end

section
/-! SUPPORT. The configuration is the same before and after what each agent does, and so after every step (00_scope R5, 10_state R28).
The operations that write the state have their `_cfg` lemma among the laws of State; here are the functions built of them. -/

namespace Sys2Proof.Machine

/-! ### The sequencer -/

@[simp] theorem pollPre_cfg (d : Bool) (b : Byte) (s : State) : (pollPre d b s).cfg = s.cfg := by
  rcases pollPre_cases d b s with ⟨_, e⟩ | ⟨_, _, e⟩ | ⟨_, _, _, e⟩ <;> simp [e]

@[simp] theorem pollPost_cfg (d : Bool) (s : State) : (pollPost d s).cfg = s.cfg := by
  rcases pollPost_cases d s with ⟨_, e⟩ | ⟨_, _, e⟩ | ⟨_, _, _, e⟩ <;> simp [e]

@[simp] theorem runDelay_cfg (s : State) : (runDelay s).cfg = s.cfg := by simp [runDelay]

@[simp] theorem seqStart_cfg (d : Bool) (op : MicroOp) (s : State) : (seqStart d op s).cfg = s.cfg := by
  cases op with
  | line l v => simp [seqStart]
  | byte b => simp [seqStart, beginByte]
  | delay us => simp [seqStart, beginDelay]
  | state p => simp [seqStart]

theorem seqMicro_cfg {d : Bool} {s t : State} (h : seqMicro d s = .next t) : t.cfg = s.cfg := by
  obtain ⟨op, _, _, rfl⟩ | ⟨b, _, _, rfl⟩ | ⟨b, _, _, rfl⟩ | ⟨us, _, _, rfl⟩ := seqMicro_next h
  · exact seqStart_cfg d op s
  · exact pollPre_cfg d b s
  · exact pollPost_cfg d s
  · exact runDelay_cfg s

/-! ### The host -/

theorem submit_cfg {s t : State} (h : submit s = .next t) : t.cfg = s.cfg := by
  obtain ⟨f, e⟩ | ⟨prog, _, _, _, e⟩ := submit_cases s
  · obtain rfl : raiseFault f s = t := by simpa [e] using h
    exact raiseFault_cfg f s
  · obtain rfl : accept prog s = t := by simpa [e] using h
    exact accept_cfg prog s

/-- Block reset starts again under the configuration it finds (70_reset R126). -/
@[simp] theorem blockReset_cfg (s : State) : (blockReset s).cfg = s.cfg := rfl

theorem hostStep_cfg {s t : State} (h : hostStep s = .next t) : t.cfg = s.cfg := by
  obtain ⟨_, rfl⟩ | ⟨_, _, _, rfl⟩ | ⟨off, v, rest, _, _, rfl⟩ | ⟨_, _, _, _, _, hsub⟩ | ⟨_, _, _, rfl⟩ | ⟨_, _, rfl⟩ :=
    hostStep_next h
  · rfl
  · rfl
  · exact writeReg_cfg off v _
  · simpa using submit_cfg hsub
  · rfl
  · exact blockReset_cfg _

/-! ### The step -/

theorem agentStep_cfg {a : Option Agent} {s t : State} (h : agentStep a s = .next t) : t.cfg = s.cfg := by
  obtain ⟨_, rfl⟩ | ⟨_, hhost⟩ | ⟨_, hseq⟩ | ⟨_, rfl⟩ := agentStep_next h
  · rfl
  · exact hostStep_cfg hhost
  · exact seqMicro_cfg hseq
  · exact bitStep_cfg s

/-- A step that answers a next state is a step of the picked agent, the draw counter moved on. -/
theorem agentStep_of_step {s t : State} (h : step s = .next t) : agentStep (pickAgent s) (advance s) = .next t := by
  unfold step machineStep at h
  split_ifs at h
  exact h

/-- Settles O56: whichever agent is picked keeps the configuration, and so does moving the draw counter on. -/
theorem configurationNeverChanges : Obligations.ConfigurationNeverChanges := by
  intro s t h
  calc t.cfg = (advance s).cfg := agentStep_cfg (agentStep_of_step h)
    _ = s.cfg := advance_cfg s

end Sys2Proof.Machine
end

section
/-! SUPPORT. What a step of the sequencer and of the host can do to the state, once each: the laws `seqMicro_next` and
`hostStep_next` carried down to the named operations, with the premises under which each happens. The safety proofs below are
case analyses of these. -/

namespace Sys2Proof.Machine

/-! ### The sequencer (30_encoding R56, 40_transport R78, R81) -/

/-- The last step of a micro-operation takes s to u, but for the completion. -/
inductive Finishing (s : State) : State → Prop
  | line (l : Line) (v : Level) : s.seqPhase = .ready → currentOp s = some (.line l v) → Finishing s (driveLine l v s)
  | state (p : PanelState) : s.seqPhase = .ready → currentOp s = some (.state p) → Finishing s (setPanelState p s)
  | delay (us : Nat) : s.seqPhase = .ready → currentOp s = some (.delay us) →
      Finishing s { beginDelay us s with dlyCnt := 0 }
  | delayOn (us : Nat) : s.seqPhase = .delaying → currentOp s = some (.delay us) → Finishing s { s with dlyCnt := 0 }
  | sent (b : Byte) : s.seqPhase = .waitPost → currentOp s = some (.byte b) → s.bc = 0 → Finishing s s
  | abandoned (b : Byte) : s.seqPhase = .waitPost → currentOp s = some (.byte b) → s.bc ≠ 0 →
      Finishing s (recordTimeout .post s)

/-- A step of a BYTE that is not its last takes s to t. -/
inductive InByte (s : State) : State → Prop
  | issue (b : Byte) : s.seqPhase = .ready ∨ s.seqPhase = .waitPre → currentOp s = some (.byte b) → s.bc = 0 →
      InByte s (issueByte b s)
  | issueOver (b : Byte) : s.seqPhase = .ready ∨ s.seqPhase = .waitPre → currentOp s = some (.byte b) → s.bc ≠ 0 →
      InByte s (issueByte b (recordTimeout .pre s))
  | firstPoll (b : Byte) : s.seqPhase = .ready → currentOp s = some (.byte b) → s.bc ≠ 0 → s.cfg.busyWaitLimit ≠ 0 →
      InByte s { s with seqPhase := .waitPre, waitCnt := 1 }
  | poll (b : Byte) : s.seqPhase = .waitPre ∨ s.seqPhase = .waitPost → currentOp s = some (.byte b) → s.bc ≠ 0 →
      s.waitCnt ≠ s.cfg.busyWaitLimit → InByte s (countPoll s)

/-- A step that starts a micro-operation finishes it, unless it is a BYTE. -/
theorem seqStart_move {d : Bool} {op : MicroOp} {s : State} (hp : s.seqPhase = .ready) (ho : currentOp s = some op) :
    (∃ u, Finishing s u ∧ seqStart d op s = microDone u) ∨ InByte s (seqStart d op s) := by
  cases op with
  | line l v => exact .inl ⟨_, .line l v hp ho, rfl⟩
  | state p => exact .inl ⟨_, .state p hp ho, rfl⟩
  | delay us => exact .inl ⟨_, .delay us hp ho, rfl⟩
  | byte b =>
    right
    rcases pollPre_cases d b { s with seqPhase := .waitPre, waitCnt := 0 } with
      ⟨hbc, e⟩ | ⟨hbc, _, e⟩ | ⟨hbc, hw, _, e⟩
    · rw [seqStart, beginByte, e]
      exact .issue b (.inl hp) ho hbc
    · rw [seqStart, beginByte, e]
      exact .issueOver b (.inl hp) ho hbc
    · rw [seqStart, beginByte, e]
      exact .firstPoll b hp ho hbc (Ne.symm hw)

/-- A step of the sequencer finishes the current micro-operation or is a step inside a BYTE. -/
theorem seqMicro_move {d : Bool} {s t : State} (h : seqMicro d s = .next t) :
    (∃ u, Finishing s u ∧ t = microDone u) ∨ InByte s t := by
  obtain ⟨op, hp, ho, rfl⟩ | ⟨b, hp, ho, rfl⟩ | ⟨b, hp, ho, rfl⟩ | ⟨us, hp, ho, rfl⟩ := seqMicro_next h
  · exact seqStart_move hp ho
  · right
    rcases pollPre_cases d b s with ⟨hbc, e⟩ | ⟨hbc, _, e⟩ | ⟨hbc, hw, _, e⟩ <;> rw [e]
    · exact .issue b (.inr hp) ho hbc
    · exact .issueOver b (.inr hp) ho hbc
    · exact .poll b (.inl hp) ho hbc hw
  · rcases pollPost_cases d s with ⟨hbc, e⟩ | ⟨hbc, _, e⟩ | ⟨hbc, hw, _, e⟩ <;> rw [e]
    · exact .inl ⟨s, .sent b hp ho hbc, rfl⟩
    · exact .inl ⟨_, .abandoned b hp ho hbc, rfl⟩
    · exact .inr (.poll b (.inr hp) ho hbc hw)
  · exact .inl ⟨_, .delayOn us hp ho, rfl⟩

/-! ### The host (20_memory R31 to R37) -/

/-- s with other values in what the host can write at any time: OPW0, OPW1, OPW2, its own queue and its reads (log 3). -/
def withHost (w0 w1 w2 : Word32) (queue : List HostOp) (reads : List Word32) (s : State) : State :=
  { s with opw0 := w0, opw1 := w1, opw2 := w2, hostQueue := queue, hostReads := reads }

/-- A step of the host takes s to t: it reads, polls or stores, a submission is refused or accepted, or the block is reset. -/
inductive HostMove (s : State) : State → Prop
  | access (w0 w1 w2 : Word32) (queue : List HostOp) (reads : List Word32) : HostMove s (withHost w0 w1 w2 queue reads s)
  | refused (f : HostFault) (w0 : Word32) (queue : List HostOp) : (s.busy = true → f = .overlap) →
      HostMove s (raiseFault f (withHost w0 s.opw1 s.opw2 queue s.hostReads s))
  | accepted (prog : List MicroOp) (w0 : Word32) (queue : List HostOp) : s.busy = false → HostProgram s.cfg prog →
      prog = initProgram s.cfg ∨ s.pstate = .active →
      HostMove s (accept prog (withHost w0 s.opw1 s.opw2 queue s.hostReads s))
  | reset (queue : List HostOp) : s.hostQueue = .reset :: queue → HostMove s (blockReset { s with hostQueue := queue })

/-- A submission while BUSY = 1 records OVERLAP, whatever the descriptor (30_encoding R52). -/
theorem submit_of_busy {s : State} (h : s.busy = true) : submit s = .next (raiseFault .overlap s) := by
  unfold submit
  cases hd : decodeDescriptor (descriptor s) with
  | none => simp [submitIllegal, h]
  | some i =>
    obtain ⟨raster, prog, he, _⟩ := exec_host_cases (decodeDescriptor_isHost hd) s
    simp [he, submitOp_of_busy h]

/-- A store is an access that changes one register, or none. -/
theorem writeReg_eq_withHost (off : BitVec 4) (v : Word32) (s : State) :
    ∃ w0 w1 w2, writeReg off v s = withHost w0 w1 w2 s.hostQueue s.hostReads s := by
  unfold writeReg
  split_ifs
  · exact ⟨v, s.opw1, s.opw2, rfl⟩
  · exact ⟨s.opw0, v, s.opw2, rfl⟩
  · exact ⟨s.opw0, s.opw1, v, rfl⟩
  · exact ⟨s.opw0, s.opw1, s.opw2, rfl⟩

/-- The write of OPW0, as the host's move: the submission it makes is refused or accepted. -/
theorem submit_move {s t : State} {w0 : Word32} {queue : List HostOp}
    (h : submit (withHost w0 s.opw1 s.opw2 queue s.hostReads s) = .next t) : HostMove s t := by
  cases hb : s.busy
  · obtain ⟨f, e⟩ | ⟨prog, _, hprog, hactive, e⟩ := submit_cases (withHost w0 s.opw1 s.opw2 queue s.hostReads s)
    · obtain rfl := Host.Outcome.next.inj (e.symm.trans h)
      exact .refused f w0 queue (by simp [hb])
    · obtain rfl := Host.Outcome.next.inj (e.symm.trans h)
      exact .accepted prog w0 queue hb hprog hactive
  · have e := submit_of_busy (s := withHost w0 s.opw1 s.opw2 queue s.hostReads s) hb
    obtain rfl := Host.Outcome.next.inj (e.symm.trans h)
    exact .refused .overlap w0 queue (fun _ => rfl)

/-- What a step of the host can do. -/
theorem hostStep_move {s t : State} (h : hostStep s = .next t) : HostMove s t := by
  obtain ⟨_, ht⟩ | ⟨_, rest, _, rfl⟩ | ⟨off, v, rest, _, _, rfl⟩ | ⟨_, _, _, _, _, hsub⟩ | ⟨_, q, _, rfl⟩
    | ⟨rest, hq, rfl⟩ := hostStep_next h
  · rw [ht]
    exact .access s.opw0 s.opw1 s.opw2 s.hostQueue s.hostReads
  · exact .access s.opw0 s.opw1 s.opw2 rest _
  · obtain ⟨w0, w1, w2, e⟩ := writeReg_eq_withHost off v { s with hostQueue := rest }
    rw [e]
    exact .access w0 w1 w2 rest s.hostReads
  · exact submit_move hsub
  · exact .access s.opw0 s.opw1 s.opw2 q _
  · exact .reset rest hq

/-! ### The step of an agent -/

/-- A step of an agent that answers a next state, as the moves above. -/
theorem agentStep_move {a : Option Agent} {s t : State} (h : agentStep a s = .next t) :
    (a = none ∧ t = s)
    ∨ (a = some .host ∧ HostMove s t)
    ∨ (a = some .sequencer ∧ ((∃ u, Finishing s u ∧ t = microDone u) ∨ InByte s t))
    ∨ (a = some .shifter ∧ t = bitStep s) := by
  obtain ⟨ha, ht⟩ | ⟨ha, hhost⟩ | ⟨ha, hseq⟩ | ⟨ha, ht⟩ := agentStep_next h
  · exact .inl ⟨ha, ht⟩
  · exact .inr (.inl ⟨ha, hostStep_move hhost⟩)
  · exact .inr (.inr (.inl ⟨ha, seqMicro_move hseq⟩))
  · exact .inr (.inr (.inr ⟨ha, ht⟩))

end Sys2Proof.Machine
end

section
/-! SUPPORT. Every step keeps the invariant (10_state R22, R23, R24; 40_transport R69, R75; 42_panel_init R88): the
micro-programs the block builds, then the invariant along each move of each agent. -/

namespace Sys2Proof

open Sys2Proof.Machine

/-! ### The micro-programs the block builds: what they are made of, and the panel state they end in -/

theorem built_writeBytes (ps : List Byte) : (writeBytes ps).all MicroOp.built = true := by
  simp [writeBytes, MicroOp.built]

theorem built_scwp (op : Byte) (ps : List Byte) : (scwp op ps).all MicroOp.built = true := by
  simp [scwp, built_writeBytes, MicroOp.built, -List.all_eq_true]

/-- A wait of 0 ms is no micro-operation, so none is DELAY(0) (40_transport R81). -/
theorem built_waitMs (ms : Nat) : (waitMs ms).all MicroOp.built = true := by
  unfold waitMs
  split_ifs with h
  · simp [delayMs, MicroOp.built, h]
  · rfl

theorem built_replayTable (table : List InitEntry) : (replayTable table).all MicroOp.built = true := by
  rw [replayTable, List.all_flatMap, List.all_eq_true]
  intro e _
  simp [replayEntry, built_scwp, built_waitMs, -List.all_eq_true]

theorem built_initProgram (c : Config) : (initProgram c).all MicroOp.built = true := by
  simp [initProgram, resetPulse, built_scwp, built_waitMs, built_replayTable, MicroOp.built, -List.all_eq_true]

theorem built_solidPixels (n : Nat) (color : Half) : (solidPixels n color).all MicroOp.built = true := by
  induction n with
  | zero => rfl
  | succ n ih => simpa only [solidPixels_succ, List.all_cons, MicroOp.built, Bool.true_and] using ih

theorem panelStates_solidPixels (n : Nat) (color : Half) : panelStates (solidPixels n color) = [] := by
  induction n with
  | zero => rfl
  | succ n ih => simpa only [solidPixels_succ, panelStates] using ih

/-- The shapes of an accepted micro-program: INIT's, the empty one of an empty rectangle, a window, and a fill. -/
theorem hostProgram_cases {c : Config} {prog : List MicroOp} (h : HostProgram c prog) :
    prog = initProgram c ∨ prog = []
    ∨ (∃ x0 xe y0 ye, prog = windowMicroOps c x0 xe y0 ye)
    ∨ ∃ x0 xe y0 ye n color,
        prog = windowMicroOps c x0 xe y0 ye ++ [.line .dc HIGH] ++ solidPixels n color ++ [.line .cs HIGH] := by
  obtain rfl | ⟨x0, y0, x1, y1, rfl⟩ | ⟨x0, y0, x1, y1, color, rfl⟩ := h
  · exact .inl rfl
  · by_cases hn : x0 < min x1 c.width ∧ y0 < min y1 c.height
    · exact .inr (.inr (.inl ⟨_, _, _, _, windowProgram_of_nonempty hn.1 hn.2⟩))
    · exact .inr (.inl (windowProgram_of_empty (by omega)))
  · by_cases hn : x0 < min x1 c.width ∧ y0 < min y1 c.height
    · exact .inr (.inr (.inr ⟨_, _, _, _, _, _, fillProgram_of_nonempty color hn.1 hn.2⟩))
    · exact .inr (.inl (fillProgram_of_empty color (by omega)))

theorem built_hostProgram {c : Config} {prog : List MicroOp} (h : HostProgram c prog) :
    prog.all MicroOp.built = true := by
  obtain rfl | rfl | ⟨x0, xe, y0, ye, rfl⟩ | ⟨x0, xe, y0, ye, n, color, rfl⟩ := hostProgram_cases h
  · exact built_initProgram c
  · rfl
  · rfl
  · simp [windowMicroOps, built_solidPixels, MicroOp.built, -List.all_eq_true]

/-- INIT ends in Active, whatever the panel state it begins in (42_panel_init R88). -/
theorem finalPanel_initProgram (p : PanelState) (c : Config) : finalPanel p (initProgram c) = .active := by
  simp [initProgram, finalPanel_append, finalPanel, finalPanel_of_no_states, panelStates_scwp, panelStates_waitMs]

/-- An accepted micro-program begun in a panel state the block can rest in ends in one. -/
theorem restingPanel_finalPanel {c : Config} {prog : List MicroOp} (h : HostProgram c prog) {p : PanelState}
    (hp : restingPanel p = true) : restingPanel (finalPanel p prog) = true := by
  obtain rfl | rfl | ⟨x0, xe, y0, ye, rfl⟩ | ⟨x0, xe, y0, ye, n, color, rfl⟩ := hostProgram_cases h
  · rw [finalPanel_initProgram]
    rfl
  · exact hp
  · exact hp
  · rw [finalPanel_of_no_states]
    · exact hp
    · simp [panelStates_append, panelStates_solidPixels, windowMicroOps, panelStates]

/-! ### The clauses of the invariant that do not say where the sequencer stands -/

/-- `Inv` without its clauses on BUSY, SEQ_PC, SEQ_PHASE and DLY_CNT. -/
structure InvBase (s : State) : Prop where
  cfgValid : s.cfg.valid = true
  bcRange : s.bc ≤ 8
  waitRange : s.waitCnt ≤ s.cfg.busyWaitLimit
  blHeld : s.lBl = s.cfg.blLevel
  sckIdle : s.sck = HIGH
  progBuilt : s.mprog.all MicroOp.built = true

theorem Inv.base {s : State} (h : Inv s) : InvBase s :=
  ⟨h.cfgValid, h.bcRange, h.waitRange, h.blHeld, h.sckIdle, h.progBuilt⟩

/-- The sequencer stands inside a micro-operation that its phase fits, and is no DELAY. -/
theorem InvBase.running {s : State} (h : InvBase s) (hb : s.busy = true)
    (hfit : phaseFits s.seqPhase (currentOp s) = true) (hphase : s.seqPhase ≠ .delaying)
    (hend : restingPanel (finalPanel s.pstate (s.mprog.drop s.seqPc)) = true) : Inv s where
  cfgValid := h.cfgValid
  bcRange := h.bcRange
  waitRange := h.waitRange
  blHeld := h.blHeld
  sckIdle := h.sckIdle
  restSeq := by simp [hb]
  runSeq _ := hfit
  delayLeft := fun hd => absurd hd hphase
  progBuilt := h.progBuilt
  panelEnds := hend

/-- The sequencer waits inside a BYTE. -/
theorem InvBase.inByte {s : State} (h : InvBase s) (hb : s.busy = true) {b : Byte} (ho : currentOp s = some (.byte b))
    (hphase : s.seqPhase = .waitPre ∨ s.seqPhase = .waitPost)
    (hend : restingPanel (finalPanel s.pstate (s.mprog.drop s.seqPc)) = true) : Inv s := by
  obtain hp | hp := hphase
  · exact h.running hb (by rw [hp, ho]; rfl) (by simp [hp]) hend
  · exact h.running hb (by rw [hp, ho]; rfl) (by simp [hp]) hend

/-- An operation completes in a panel state the block can rest in. -/
theorem InvBase.complete {s : State} (h : InvBase s) (hend : restingPanel s.pstate = true) : Inv (complete s) where
  cfgValid := h.cfgValid
  bcRange := h.bcRange
  waitRange := h.waitRange
  blHeld := h.blHeld
  sckIdle := h.sckIdle
  restSeq _ := ⟨rfl, rfl, rfl⟩
  runSeq := by simp
  delayLeft := by simp
  progBuilt := rfl
  panelEnds := hend

/-- A micro-operation completes: what is left of MPROG ends in a panel state the block can rest in. -/
theorem InvBase.microDone {s : State} (h : InvBase s) (hb : s.busy = true)
    (hend : restingPanel (finalPanel s.pstate (s.mprog.drop (s.seqPc + 1))) = true) : Inv (microDone s) := by
  obtain ⟨hlen, e⟩ | ⟨hlen, e⟩ := microDone_cases s <;> rw [e]
  · rw [List.drop_eq_nil_of_le hlen] at hend
    exact h.complete hend
  · refine InvBase.running ⟨h.cfgValid, h.bcRange, h.waitRange, h.blHeld, h.sckIdle, h.progBuilt⟩ hb ?_ (by simp) hend
    simp [currentOp, hlen, phaseFits]

/-! ### The sequencer -/

/-- The current micro-operation is one the block builds. -/
theorem Inv.built_currentOp {s : State} (h : Inv s) {op : MicroOp} (ho : currentOp s = some op) : op.built = true :=
  List.all_eq_true.mp h.progBuilt op (List.mem_of_getElem? ho)

/-- After the current micro-operation the rest of MPROG ends in a panel state the block can rest in. -/
theorem Inv.panelEnds_after {s : State} (h : Inv s) {op : MicroOp} (ho : currentOp s = some op) :
    restingPanel (finalPanel (finalPanel s.pstate [op]) (s.mprog.drop (s.seqPc + 1))) = true := by
  rw [← finalPanel_append, List.singleton_append, ← drop_of_currentOp ho]
  exact h.panelEnds

theorem Inv.microDone_of_finishing {s u : State} (h : Inv s) (hb : s.busy = true) (hu : Finishing s u) :
    Inv (microDone u) := by
  obtain ⟨hv, hbc, hw, hbl, hsck, hbuilt⟩ := h.base
  cases hu with
  | line l v _ ho =>
    cases l
    case bl => exact absurd (h.built_currentOp ho) (by simp [MicroOp.built])
    all_goals exact InvBase.microDone ⟨hv, hbc, hw, hbl, hsck, hbuilt⟩ hb (h.panelEnds_after ho)
  | state p _ ho => exact InvBase.microDone ⟨hv, hbc, hw, hbl, hsck, hbuilt⟩ hb (h.panelEnds_after ho)
  | delay us _ ho => exact InvBase.microDone ⟨hv, hbc, hw, hbl, hsck, hbuilt⟩ hb (h.panelEnds_after ho)
  | delayOn us _ ho => exact InvBase.microDone ⟨hv, hbc, hw, hbl, hsck, hbuilt⟩ hb (h.panelEnds_after ho)
  | sent b _ ho _ => exact h.base.microDone hb (h.panelEnds_after ho)
  | abandoned b _ ho _ => exact InvBase.microDone ⟨hv, hbc, hw, hbl, hsck, hbuilt⟩ hb (h.panelEnds_after ho)

theorem Inv.of_inByte {s t : State} (h : Inv s) (hb : s.busy = true) (ht : InByte s t) : Inv t := by
  obtain ⟨hv, hbc, hw, hbl, hsck, hbuilt⟩ := h.base
  cases ht with
  | issue b _ ho _ =>
    exact InvBase.inByte ⟨hv, le_refl 8, Nat.zero_le _, hbl, hsck, hbuilt⟩ hb ho (.inr rfl) h.panelEnds
  | issueOver b _ ho _ =>
    exact InvBase.inByte ⟨hv, le_refl 8, Nat.zero_le _, hbl, hsck, hbuilt⟩ hb ho (.inr rfl) h.panelEnds
  | firstPoll b _ ho _ hlim =>
    exact InvBase.inByte ⟨hv, hbc, Nat.pos_of_ne_zero hlim, hbl, hsck, hbuilt⟩ hb ho (.inl rfl) h.panelEnds
  | poll b hp ho _ hlim =>
    exact InvBase.inByte ⟨hv, hbc, Nat.lt_of_le_of_ne hw hlim, hbl, hsck, hbuilt⟩ hb ho hp h.panelEnds

/-! ### The host, the shifter and the step -/

/-- Block reset meets the invariant, whatever runs (70_reset R127). -/
theorem inv_blockReset {s : State} (hv : s.cfg.valid = true) : Inv (blockReset s) where
  cfgValid := hv
  bcRange := Nat.zero_le 8
  waitRange := Nat.zero_le _
  blHeld := rfl
  sckIdle := rfl
  restSeq _ := ⟨rfl, rfl, rfl⟩
  runSeq := by simp [blockReset, State.resetAt]
  delayLeft := by simp [blockReset, State.resetAt]
  progBuilt := rfl
  panelEnds := rfl

/-- The invariant says nothing of the host's registers, queue and reads. -/
theorem Inv.withHost {s : State} (h : Inv s) (w0 w1 w2 : Word32) (queue : List HostOp) (reads : List Word32) :
    Inv (withHost w0 w1 w2 queue reads s) :=
  ⟨h.cfgValid, h.bcRange, h.waitRange, h.blHeld, h.sckIdle, h.restSeq, h.runSeq, h.delayLeft, h.progBuilt, h.panelEnds⟩

/-- Nor of the fault bits. -/
theorem Inv.raiseFault {s : State} (h : Inv s) (f : HostFault) : Inv (raiseFault f s) := by
  cases f <;>
    exact ⟨h.cfgValid, h.bcRange, h.waitRange, h.blHeld, h.sckIdle, h.restSeq, h.runSeq, h.delayLeft, h.progBuilt,
      h.panelEnds⟩

/-- With BUSY = 0 the panel is in a state the block can rest in (95_test_vectors V-D1). -/
theorem Inv.restingPanel_of_idle {s : State} (h : Inv s) (hb : s.busy = false) : restingPanel s.pstate = true := by
  have hend := h.panelEnds
  rw [(h.restSeq hb).1] at hend
  simpa [finalPanel] using hend

theorem Inv.accept {s : State} (h : Inv s) (hb : s.busy = false) {prog : List MicroOp} (hp : HostProgram s.cfg prog) :
    Inv (accept prog s) := by
  have hrest := h.restingPanel_of_idle hb
  cases prog with
  | nil =>
    exact InvBase.complete (s := { s with latch := some (descriptor s) })
      ⟨h.cfgValid, h.bcRange, h.waitRange, h.blHeld, h.sckIdle, h.progBuilt⟩ hrest
  | cons op rest =>
    exact InvBase.running ⟨h.cfgValid, h.bcRange, h.waitRange, h.blHeld, h.sckIdle, built_hostProgram hp⟩ rfl rfl nofun
       (restingPanel_finalPanel hp hrest)

theorem Inv.of_hostMove {s t : State} (h : Inv s) (ht : HostMove s t) : Inv t := by
  cases ht with
  | access w0 w1 w2 queue reads => exact h.withHost ..
  | refused f w0 queue _ => exact (h.withHost ..).raiseFault f
  | accepted prog w0 queue hb hp _ => exact (h.withHost w0 ..).accept hb hp
  | reset queue _ => exact inv_blockReset h.cfgValid

theorem Inv.bitStep {s : State} (h : Inv s) : Inv (bitStep s) :=
  ⟨h.cfgValid, (Nat.sub_le s.bc 1).trans h.bcRange, h.waitRange, h.blHeld, rfl, h.restSeq, h.runSeq, h.delayLeft, h.progBuilt,
    h.panelEnds⟩

theorem Inv.advance {s : State} (h : Inv s) : Inv (advance s) :=
  ⟨h.cfgValid, h.bcRange, h.waitRange, h.blHeld, h.sckIdle, h.restSeq, h.runSeq, h.delayLeft, h.progBuilt, h.panelEnds⟩

/-- Settles O50, agent by agent: the draw counter moves on, then one of the moves above. -/
theorem stepKeepsInvariant : Obligations.StepKeepsInvariant := by
  intro s t h hstep
  obtain ⟨_, ⟨_, rfl⟩ | ⟨_, hhost⟩ | ⟨_, hb, hseq⟩ | ⟨_, _, rfl⟩⟩ := step_next hstep
  · exact h.advance
  · exact h.advance.of_hostMove (hostStep_move hhost)
  · obtain ⟨u, hu, rfl⟩ | ht := seqMicro_move hseq
    · exact h.advance.microDone_of_finishing hb hu
    · exact h.advance.of_inByte hb ht
  · exact h.advance.bitStep

end Sys2Proof
end

section
/-! SUPPORT. The fields of STATUS, each at its bits (10_state R14): the parts of a word built by ++ below a field are passed over, and
the field is the last part of what remains. -/

namespace Sys2Proof.Machine

/-- STATUS[2:0]. -/
theorem statusWord_panelBits (s : State) : (statusWord s).extractLsb' 0 3 = panelCode s.pstate := by
  unfold statusWord
  rw [BitVec.extractLsb'_append_eq_of_add_le (by decide)]
  exact BitVec.extractLsb'_eq_self

/-- STATUS[11:9]. -/
theorem statusWord_causeBits (s : State) : (statusWord s).extractLsb' 9 3 = causeCode s.lastCause := by
  unfold statusWord
  iterate 7 rw [BitVec.extractLsb'_append_eq_of_le (by decide)]
  rw [BitVec.extractLsb'_append_eq_of_add_le (by decide)]
  exact BitVec.extractLsb'_eq_self

/-- STATUS[15:12], hardwired to zero. -/
theorem statusWord_reservedBits (s : State) : (statusWord s).extractLsb' 12 4 = 0 := by
  unfold statusWord
  iterate 8 rw [BitVec.extractLsb'_append_eq_of_le (by decide)]
  rw [BitVec.extractLsb'_append_eq_of_add_le (by decide)]
  exact BitVec.extractLsb'_eq_self

/-- STATUS[31:16]. -/
theorem statusWord_countBits (s : State) : (statusWord s).extractLsb' 16 16 = s.timeoutCount := by
  unfold statusWord
  iterate 9 rw [BitVec.extractLsb'_append_eq_of_le (by decide)]
  exact BitVec.extractLsb'_eq_self

/-- STATUS[8:3], the single bits from BUSY up to TIMEOUT. -/
theorem statusWord_singleBits (s : State) :
    (statusWord s).getLsbD 3 = s.busy ∧ (statusWord s).getLsbD 4 = csOpen s ∧ (statusWord s).getLsbD 5 = s.fIllegal
    ∧ (statusWord s).getLsbD 6 = s.fUbi ∧ (statusWord s).getLsbD 7 = s.fOverlap ∧ (statusWord s).getLsbD 8 = s.timeout := by
  simp only [statusWord, BitVec.getLsbD_append]
  simp

/-- Settles O28: each field of STATUS at its bits, its code by the table of R12 or R112. -/
theorem statusFieldsAtTheirBits : Obligations.StatusFieldsAtTheirBits := by
  intro s
  obtain ⟨hbusy, hcs, hillegal, hubi, hoverlap, htimeout⟩ := statusWord_singleBits s
  rw [statusWord_panelBits, statusWord_causeBits]
  refine ⟨?_, ?_, ?_, ?_, ?_, hbusy, hcs, hillegal, hubi, hoverlap, htimeout, ?_, ?_, ?_, ?_, ?_, statusWord_reservedBits s,
    statusWord_countBits s⟩
  all_goals
    intro h
    rw [h]
    rfl

end Sys2Proof.Machine
end

section
/-! SUPPORT. What each move leaves alone: the host while an operation runs, the sticky bits, PSTATE, the running micro-program and
BUSY (10_state R13, R15, R17, R19, R21, R22; 20_memory R39, R43). -/

namespace Sys2Proof.Machine

/-! ### The host while an operation runs -/

theorem noResetNext_reset {s : State} {rest : List HostOp} (h : s.hostQueue = .reset :: rest) : noResetNext s = false := by
  simp [noResetNext, h]

/-- Settles O29: with BUSY = 1 the host can access the registers, or have a submission refused with OVERLAP. -/
theorem hostCannotDisturbRunningOperation : Obligations.HostCannotDisturbRunningOperation := by
  intro s t hb hn h
  cases hostStep_move h with
  | access w0 w1 w2 queue reads => rfl
  | refused f w0 queue hf =>
    rw [hf hb]
    rfl
  | accepted prog w0 queue hidle _ _ => exact absurd hidle (by simp [hb])
  | reset queue hq => exact absurd (noResetNext_reset hq) (by simp [hn])

/-! ### The sticky bits -/

/-- What is sticky in s stays in t (10_state R17), and TIMEOUT_COUNT is no less (R19). -/
def StickyKept (s t : State) : Prop :=
  (s.fIllegal = true → t.fIllegal = true) ∧ (s.fUbi = true → t.fUbi = true)
  ∧ (s.fOverlap = true → t.fOverlap = true) ∧ (s.timeout = true → t.timeout = true)
  ∧ s.timeoutCount.toNat ≤ t.timeoutCount.toNat

/-- Saturating, the count never falls (10_state R19). -/
theorem le_countTimeout (n : BitVec 16) : n.toNat ≤ (countTimeout n).toNat := by
  unfold countTimeout
  split_ifs with h
  · rw [h]
  · bv_omega

theorem StickyKept.recordTimeout (p : WaitTag) (s : State) : StickyKept s (recordTimeout p s) := by
  simp [StickyKept, le_countTimeout]

theorem StickyKept.of_finishing {s u : State} (h : Finishing s u) : StickyKept s (microDone u) := by
  cases h with
  | abandoned b _ _ _ => simpa [StickyKept] using StickyKept.recordTimeout .post s
  | line | state | delay | delayOn | sent => simp [StickyKept, beginDelay]

theorem StickyKept.of_inByte {s t : State} (h : InByte s t) : StickyKept s t := by
  cases h with
  | issueOver b _ _ _ => exact StickyKept.recordTimeout .pre s
  | issue | firstPoll | poll => simp [StickyKept]

theorem StickyKept.of_hostMove {s t : State} (h : HostMove s t) (hn : noResetNext s = true) : StickyKept s t := by
  cases h with
  | access w0 w1 w2 queue reads => simp [StickyKept, withHost]
  | refused f w0 queue _ => simp +contextual [StickyKept, withHost]
  | accepted prog w0 queue _ _ _ => simp [StickyKept, withHost]
  | reset queue hq => exact absurd (noResetNext_reset hq) (by simp [hn])

/-- Settles O52: only block reset clears a sticky bit or the count. -/
theorem stickyBitsStay : Obligations.StickyBitsStay := by
  intro a s t h hn
  obtain ⟨_, rfl⟩ | ⟨ha, hhost⟩ | ⟨_, ⟨u, hu, rfl⟩ | ht⟩ | ⟨_, rfl⟩ := agentStep_move h
  · simp
  · exact StickyKept.of_hostMove hhost (hn ha)
  · exact StickyKept.of_finishing hu
  · exact StickyKept.of_inByte ht
  · simp

/-! ### PSTATE -/

/-- The last step of a micro-operation leaves PSTATE alone, unless it is a STATE. -/
theorem Finishing.pstate {s u : State} (h : Finishing s u) :
    u.pstate = s.pstate ∨ (s.seqPhase = .ready ∧ currentOp s = some (.state u.pstate)) := by
  cases h with
  | state p hp ho => exact .inr ⟨hp, ho⟩
  | line | delay | delayOn | sent | abandoned => exact .inl (by simp [beginDelay])

theorem InByte.pstate {s t : State} (h : InByte s t) : t.pstate = s.pstate := by
  cases h <;> rfl

theorem HostMove.pstate {s t : State} (h : HostMove s t) :
    t.pstate = s.pstate ∨ (s.hostQueue.head? = some .reset ∧ t.pstate = .unpowered) := by
  cases h with
  | reset queue hq => exact .inr ⟨by rw [hq]; rfl, rfl⟩
  | access | refused | accepted => exact .inl (by simp [withHost])

/-- Settles O53, by the moves: only a STATE and block reset write PSTATE. -/
theorem panelStateChangesOnlyByState : Obligations.PanelStateChangesOnlyByState := by
  intro a s t h hne
  obtain ⟨_, rfl⟩ | ⟨ha, hhost⟩ | ⟨ha, ⟨u, hu, rfl⟩ | ht⟩ | ⟨_, rfl⟩ := agentStep_move h
  · exact absurd rfl hne
  · exact .inr ⟨ha, hhost.pstate.resolve_left hne⟩
  · rw [microDone_pstate] at hne ⊢
    exact .inl ⟨ha, hu.pstate.resolve_left hne⟩
  · exact absurd ht.pstate hne
  · exact absurd (bitStep_pstate s) hne

/-! ### The running micro-program and BUSY -/

/-- The same operation runs in t as in s, at the same micro-operation: BUSY, MPROG, SEQ_PC and LATCH are unchanged. -/
structure SameOperation (s t : State) : Prop where
  busy : t.busy = s.busy
  mprog : t.mprog = s.mprog
  seqPc : t.seqPc = s.seqPc
  latch : t.latch = s.latch

theorem Finishing.sameOperation {s u : State} (h : Finishing s u) : SameOperation s u := by
  cases h <;> constructor <;> simp [beginDelay]

theorem InByte.sameOperation {s t : State} (h : InByte s t) : SameOperation s t := by
  cases h <;> constructor <;> rfl

/-- While an operation runs the host leaves it alone, or resets the block. -/
theorem HostMove.sameOperation {s t : State} (h : HostMove s t) (hb : s.busy = true) :
    SameOperation s t ∨ (s.hostQueue.head? = some .reset ∧ t.busy = false) := by
  cases h with
  | access w0 w1 w2 queue reads => exact .inl ⟨rfl, rfl, rfl, rfl⟩
  | refused f w0 queue _ => exact .inl (by constructor <;> simp [withHost])
  | accepted prog w0 queue hidle _ _ => exact absurd hidle (by simp [hb])
  | reset queue hq => exact .inr ⟨by rw [hq]; rfl, rfl⟩

/-- While an operation runs, a step leaves it where it is, completes its current micro-operation, or resets the block. -/
theorem agentStep_operation {a : Option Agent} {s t : State} (h : agentStep a s = .next t) (hb : s.busy = true) :
    SameOperation s t
    ∨ (a = some .sequencer ∧ ∃ u, SameOperation s u ∧ t = microDone u)
    ∨ (a = some .host ∧ s.hostQueue.head? = some .reset ∧ t.busy = false) := by
  obtain ⟨_, rfl⟩ | ⟨ha, hhost⟩ | ⟨ha, ⟨u, hu, rfl⟩ | ht⟩ | ⟨_, rfl⟩ := agentStep_move h
  · exact .inl ⟨rfl, rfl, rfl, rfl⟩
  · exact (hhost.sameOperation hb).imp_right fun hr => .inr ⟨ha, hr⟩
  · exact .inr (.inl ⟨ha, u, hu.sameOperation, rfl⟩)
  · exact .inl ht.sameOperation
  · exact .inl ⟨rfl, rfl, rfl, rfl⟩

/-- Settles O54: a completion that leaves BUSY = 1 advances SEQ_PC by 1 and keeps the rest. -/
theorem runningProgramIsFixed : Obligations.RunningProgramIsFixed := by
  intro a s t h hb htb
  obtain hs | ⟨_, u, hu, rfl⟩ | ⟨_, _, hidle⟩ := agentStep_operation h hb
  · exact ⟨hs.mprog, hs.latch, .inl hs.seqPc⟩
  · obtain ⟨_, e⟩ | ⟨_, e⟩ := microDone_cases u
    · exact absurd htb (by simp [e])
    · rw [e]
      exact ⟨hu.mprog, hu.latch, .inr (by simp [hu.seqPc])⟩
  · exact absurd htb (by simp [hidle])

/-- Settles O55: a completion that clears BUSY is the one of the last micro-operation. -/
theorem busyFallsAtTheEnd : Obligations.BusyFallsAtTheEnd := by
  intro a s t h hb htb
  obtain hs | ⟨ha, u, hu, rfl⟩ | ⟨ha, hq, _⟩ := agentStep_operation h hb
  · exact absurd (hs.busy.symm.trans htb) (by simp [hb])
  · obtain ⟨hlen, _⟩ | ⟨_, e⟩ := microDone_cases u
    · rw [hu.mprog, hu.seqPc] at hlen
      exact .inl ⟨ha, hlen⟩
    · exact absurd htb (by simp [e, hu.busy, hb])
  · exact .inr ⟨ha, hq⟩

end Sys2Proof.Machine
end

section
/-! SUPPORT. A byte is in the shifter only during the POST wait of its own BYTE, as long as no wait is abandoned (20_memory R46,
70_reset R134): `Quiet` along each move of each agent, and which step appends a Line event. -/

namespace Sys2Proof.Machine

/-! ### Which step appends a Line event -/

theorem Finishing.ready_of_line_event {s u : State} (hu : Finishing s u) {l : Line} {v : Level}
    (htr : u.trace = s.trace ++ [.line l v]) : s.seqPhase = .ready := by
  cases hu with
  | line _ _ hp _ | state _ hp _ | delay _ hp _ => exact hp
  | delayOn | sent | abandoned => simp at htr

theorem InByte.no_line_event {s t : State} (ht : InByte s t) (l : Line) (v : Level) : t.trace ≠ s.trace ++ [.line l v] := by
  cases ht <;> simp

theorem HostMove.no_line_event {s t : State} (ht : HostMove s t) (l : Line) (v : Level) :
    t.trace ≠ s.trace ++ [.line l v] := by
  cases ht with
  | access | refused | accepted => simp [withHost]
  | reset => simp [blockReset, State.resetAt]

/-- A Line event is appended only by a micro-operation started at READY. -/
theorem agentStep_ready_of_line_event {a : Option Agent} {s t : State} (h : agentStep a s = .next t) {l : Line} {v : Level}
    (htr : t.trace = s.trace ++ [.line l v]) : s.seqPhase = .ready := by
  obtain ⟨_, rfl⟩ | ⟨_, hhost⟩ | ⟨_, ⟨u, hu, rfl⟩ | ht⟩ | ⟨_, rfl⟩ := agentStep_move h
  · simp at htr
  · exact absurd htr (hhost.no_line_event l v)
  · exact hu.ready_of_line_event (by simpa using htr)
  · exact absurd htr (ht.no_line_event l v)
  · simp at htr

end Sys2Proof.Machine

namespace Sys2Proof

open Sys2Proof.Machine

/-! ### Quiet along the moves -/

/-- With no timeout recorded the shifter is empty outside a POST wait. -/
theorem Quiet.bc_eq_zero {s : State} (hq : Quiet s) (hto : s.timeout = false) (hp : s.seqPhase ≠ .waitPost) : s.bc = 0 := by
  by_contra hbc
  exact hp (hq hto hbc).2

theorem Quiet.advance {s : State} (hq : Quiet s) : Quiet (advance s) := hq

theorem Quiet.bitStep {s : State} (hq : Quiet s) : Quiet (bitStep s) := by
  intro hto hbc
  refine hq hto fun h0 => hbc ?_
  rw [bitStep_bc, h0]

/-- A micro-operation finishes with the shifter empty, or abandons its POST wait. -/
theorem Quiet.microDone_of_finishing {s u : State} (hq : Quiet s) (hu : Finishing s u) : Quiet (microDone u) := by
  intro hto hbc
  rw [microDone_timeout] at hto
  rw [microDone_bc] at hbc
  cases hu with
  | line l v hp _ => exact absurd (hq.bc_eq_zero (by simpa using hto) (by simp [hp])) (by simpa using hbc)
  | state p hp _ | delay us hp _ | delayOn us hp _ => exact absurd (hq.bc_eq_zero hto (by simp [hp])) hbc
  | sent b _ _ h0 => exact absurd h0 hbc
  | abandoned b _ _ _ => exact absurd hto (by simp)

/-- A BYTE issues into its own POST wait; it polls with a byte in flight only there. -/
theorem Quiet.of_inByte {s t : State} (hq : Quiet s) (hb : s.busy = true) (ht : InByte s t) : Quiet t := by
  intro hto hbc
  cases ht with
  | issue b _ _ _ => exact ⟨hb, rfl⟩
  | issueOver b _ _ _ => exact ⟨hb, rfl⟩
  | firstPoll b hp _ _ _ => exact absurd (hq.bc_eq_zero hto (by simp [hp])) hbc
  | poll b _ _ _ _ => exact hq hto hbc

/-- A submission is accepted only with BUSY = 0, where no byte is in flight; block reset empties the shifter. -/
theorem Quiet.of_hostMove {s t : State} (hq : Quiet s) (ht : HostMove s t) : Quiet t := by
  intro hto hbc
  cases ht with
  | access w0 w1 w2 queue reads => exact hq hto hbc
  | refused f w0 queue _ => simpa [withHost] using hq (by simpa [withHost] using hto) (by simpa [withHost] using hbc)
  | accepted prog w0 queue hidle _ _ =>
    obtain ⟨hb, _⟩ := hq (by simpa [withHost] using hto) (by simpa [withHost] using hbc)
    exact absurd hidle (by simp [hb])
  | reset queue _ => exact absurd rfl hbc

theorem Quiet.of_step {s t : State} (hq : Quiet s) (hstep : step s = .next t) : Quiet t := by
  obtain ⟨_, ⟨_, rfl⟩ | ⟨_, hhost⟩ | ⟨_, hb, hseq⟩ | ⟨_, _, rfl⟩⟩ := step_next hstep
  · exact hq.advance
  · exact hq.advance.of_hostMove (hostStep_move hhost)
  · obtain ⟨u, hu, rfl⟩ | ht := seqMicro_move hseq
    · exact hq.advance.microDone_of_finishing hu
    · exact hq.advance.of_inByte hb ht
  · exact hq.advance.bitStep

/-- Settles O58: `Quiet` along the moves; a Line event comes of a step at READY, where `Quiet` leaves the shifter empty. -/
theorem noLineChangesDuringAByte : Obligations.NoLineChangesDuringAByte := by
  intro s t _ hq hstep
  refine ⟨hq.of_step hstep, fun l v hto htr => ?_⟩
  have hready : s.seqPhase = .ready :=
    agentStep_ready_of_line_event (s := advance s) (agentStep_of_step hstep) htr
  exact hq.bc_eq_zero hto (by simp [hready])

end Sys2Proof
end

section
/-! SUPPORT. The agent picked for a step (20_memory R37, R48): when there is none, and what the step then is. -/

namespace Sys2Proof.Machine

/-- No agent is picked exactly when none can step. -/
theorem pickAgent_eq_none_iff {s : State} : pickAgent s = none ↔ enabledAgents s = [] := by
  unfold pickAgent
  split
  · next h => simp [h]
  · next a h => simp [h]
  · next a b rest h => split_ifs <;> simp [h]

/-- No agent can step exactly when the shifter is empty, BUSY = 0 and the host has nothing left. -/
theorem enabledAgents_eq_nil_iff {s : State} :
    enabledAgents s = [] ↔ s.bc = 0 ∧ s.busy = false ∧ s.hostQueue = [] := by
  simp [enabledAgents]

/-- With no agent able to step the run has ended (20_memory R48). -/
theorem runEnded_of_pickAgent_none {s : State} (h : pickAgent s = none) : runEnded s = true := by
  obtain ⟨hbc, hb, hq⟩ := enabledAgents_eq_nil_iff.mp (pickAgent_eq_none_iff.mp h)
  simp [runEnded, sbusy, hbc, hb, hq]

/-- Under a valid configuration a step is the picked agent's (70_reset R129). -/
theorem step_of_valid {s : State} (hv : s.cfg.valid = true) : step s = agentStep (pickAgent s) (advance s) := by
  rw [step, machineStep, if_pos hv]

/-- Settles O4: the step by its check of the configuration, the picked agent by the agents that can step. -/
theorem stepIsOneAgentsStep : Obligations.StepIsOneAgentsStep := by
  intro s
  refine ⟨step_of_valid, fun hv => ?_, fun a => pickAgent_mem, pickAgent_eq_none_iff.trans enabledAgents_eq_nil_iff⟩
  rw [step, machineStep, if_neg (by simp [hv])]

end Sys2Proof.Machine
end

section
/-! SUPPORT. With the host silent every operation runs to completion (20_memory R43, 42_panel_init R96): a measure that every step
lowers. A BYTE's issue loads the shifter anew, so the micro-operations left come first, then the phases left of the current
one, and only then the polls and bits left. -/

namespace Sys2Proof.Machine

/-! ### The measure -/

/-- The micro-operations of MPROG from SEQ_PC on. -/
def opsLeft (s : State) : Nat := s.mprog.length - s.seqPc

/-- How many phases of a BYTE are still to come after this one (40_transport R78). -/
def phasesLeft : SeqPhase → Nat
  | .ready => 2
  | .waitPre => 1
  | .waitPost => 0
  | .delaying => 0
  | .idle => 0

/-- The polls the current wait has left before BUSY_WAIT_LIMIT (40_transport R76), and the bits left in the shifter. -/
def pollsAndBitsLeft (s : State) : Nat := (s.cfg.busyWaitLimit - s.waitCnt) + s.bc

/-- What is left to do with the host silent, ordered lexicographically. -/
def workLeft (s : State) : Nat ×ₗ Nat ×ₗ Nat :=
  toLex (opsLeft s, toLex (phasesLeft s.seqPhase, pollsAndBitsLeft s))

theorem workLeft_lt_of_ops {s t : State} (h : opsLeft t < opsLeft s) : workLeft t < workLeft s :=
  Prod.Lex.toLex_lt_toLex.mpr (.inl h)

theorem workLeft_lt_of_phase {s t : State} (ho : opsLeft t = opsLeft s) (h : phasesLeft t.seqPhase < phasesLeft s.seqPhase) :
    workLeft t < workLeft s :=
  Prod.Lex.toLex_lt_toLex.mpr (.inr ⟨ho, Prod.Lex.toLex_lt_toLex.mpr (.inl h)⟩)

theorem workLeft_lt_of_polls {s t : State} (ho : opsLeft t = opsLeft s) (hp : t.seqPhase = s.seqPhase)
    (h : pollsAndBitsLeft t < pollsAndBitsLeft s) : workLeft t < workLeft s :=
  Prod.Lex.toLex_lt_toLex.mpr (.inr ⟨ho, Prod.Lex.toLex_lt_toLex.mpr (.inr ⟨congrArg phasesLeft hp, h⟩)⟩)

/-! ### Each move lowers it -/

/-- A completion leaves fewer micro-operations. -/
theorem opsLeft_microDone_lt {u : State} (h : u.seqPc < u.mprog.length) : opsLeft (microDone u) < opsLeft u := by
  obtain ⟨_, e⟩ | ⟨_, e⟩ := microDone_cases u <;> rw [e]
  · simpa [opsLeft] using h
  · simp only [opsLeft]
    omega

theorem seqPc_lt_of_currentOp {s : State} {op : MicroOp} (h : currentOp s = some op) : s.seqPc < s.mprog.length :=
  (List.getElem?_eq_some_iff.mp h).1

theorem Finishing.seqPc_lt {s u : State} (hu : Finishing s u) : s.seqPc < s.mprog.length := by
  cases hu with
  | line _ _ _ ho | state _ _ ho | delay _ _ ho | delayOn _ _ ho | sent _ _ ho _ | abandoned _ _ ho _ =>
    exact seqPc_lt_of_currentOp ho

theorem Finishing.workLeft_lt {s u : State} (hu : Finishing s u) : workLeft (microDone u) < workLeft s := by
  have hsame := hu.sameOperation
  have hlt := opsLeft_microDone_lt (u := u) (by rw [hsame.mprog, hsame.seqPc]; exact hu.seqPc_lt)
  refine workLeft_lt_of_ops (hlt.trans_eq ?_)
  rw [opsLeft, opsLeft, hsame.mprog, hsame.seqPc]

theorem InByte.workLeft_lt {s t : State} (ht : InByte s t) (hw : s.waitCnt ≤ s.cfg.busyWaitLimit) :
    workLeft t < workLeft s := by
  cases ht with
  | issue b hp _ _ => exact workLeft_lt_of_phase rfl (by obtain hp | hp := hp <;> simp [hp, phasesLeft])
  | issueOver b hp _ _ => exact workLeft_lt_of_phase rfl (by obtain hp | hp := hp <;> simp [hp, phasesLeft])
  | firstPoll b hp _ _ _ => exact workLeft_lt_of_phase rfl (by simp [hp, phasesLeft])
  | poll b _ _ _ hlim =>
    refine workLeft_lt_of_polls rfl rfl ?_
    simp only [pollsAndBitsLeft, countPoll]
    omega

theorem workLeft_bitStep_lt {s : State} (h : 0 < s.bc) : workLeft (bitStep s) < workLeft s := by
  refine workLeft_lt_of_polls rfl rfl ?_
  simp only [pollsAndBitsLeft, bitStep_cfg, bitStep_waitCnt, bitStep_bc]
  omega

/-! ### Each move of the sequencer leaves the host silent -/

theorem Finishing.hostQueue {s u : State} (hu : Finishing s u) : u.hostQueue = s.hostQueue := by
  cases hu <;> simp [beginDelay]

theorem InByte.hostQueue {s t : State} (ht : InByte s t) : t.hostQueue = s.hostQueue := by
  cases ht <;> rfl

end Sys2Proof.Machine

namespace Sys2Proof

open Sys2Proof.Machine

/-! ### The step and the run -/

/-- With the host silent a step of an agent answers a next state with less left to do. -/
theorem Inv.silent_step {s : State} (h : Inv s) (hq : s.hostQueue = []) (hpick : pickAgent s ≠ none) :
    ∃ t, step s = .next t ∧ t.hostQueue = [] ∧ workLeft t < workLeft s := by
  obtain ⟨a, ha⟩ := Option.ne_none_iff_exists'.mp hpick
  rw [step_of_valid h.cfgValid, ha]
  obtain ⟨rfl, hbc⟩ | ⟨rfl, hb⟩ | ⟨_, hhost⟩ := mem_enabledAgents.mp (pickAgent_mem ha)
  · exact ⟨_, rfl, hq, workLeft_bitStep_lt (s := Machine.advance s) hbc⟩
  · obtain ⟨t, ht⟩ := seqMicro_of_fits (d := Config.waitAbandoned (s.tick + 1)) (h.advance.runSeq hb)
    refine ⟨t, (sequencerStep_eq_seqMicro _).trans ht, ?_⟩
    obtain ⟨u, hu, rfl⟩ | hin := seqMicro_move ht
    · exact ⟨by rw [microDone_hostQueue, hu.hostQueue, advance_hostQueue, hq], hu.workLeft_lt⟩
    · exact ⟨by rw [hin.hostQueue, advance_hostQueue, hq], hin.workLeft_lt h.waitRange⟩
  · exact absurd hq hhost

/-- Settles O60, by induction on what is left to do: the run has ended, or a step leaves less. -/
theorem operationsRunToCompletion : Obligations.OperationsRunToCompletion := by
  intro s
  induction hw : workLeft s using WellFoundedLT.induction generalizing s with
  | ind w ih =>
    intro h hq
    by_cases hpick : pickAgent s = none
    · exact ⟨0, s, rfl, runEnded_of_pickAgent_none hpick⟩
    · obtain ⟨t, hstep, htq, hlt⟩ := h.silent_step hq hpick
      obtain ⟨k, v, hrun, hend⟩ := ih _ (hw ▸ hlt) t rfl (stepKeepsInvariant s t h hstep) htq
      exact ⟨k + 1, v, (run_of_step hstep).trans hrun, hend⟩

end Sys2Proof
end

section
/-! SUPPORT. The host's accesses to the register window (20_memory R31, R32, R34, R36): which are defined, and what a defined one
does. -/

namespace Sys2Proof.Machine

/-! ### Defined and undefined accesses (20_memory R32) -/

theorem checkedAccess_aligned {off : BitVec 4} (h : off.extractLsb' 0 2 = 0) (k : Out) : checkedAccess off 4 k = k := by
  simp [checkedAccess, h]

theorem checkedAccess_other_width (off : BitVec 4) {size : Nat} (h : size ≠ 4) (k : Out) :
    checkedAccess off size k = .refused .accessWidth := by
  rw [checkedAccess, if_pos h]

theorem checkedAccess_misaligned {off : BitVec 4} (h : off.extractLsb' 0 2 ≠ 0) (k : Out) :
    checkedAccess off 4 k = .refused .misaligned := by
  rw [checkedAccess, if_neg (by simp), if_pos h]

/-! ### The host's step, by its oldest operation -/

theorem hostStep_of_cons {s : State} {op : HostOp} {rest : List HostOp} (h : s.hostQueue = op :: rest) :
    hostStep s = hostOp op rest s := by
  simp [hostStep, h]

/-- A read or a write passes the one check of width and alignment. -/
theorem hostStep_access {s : State} {off : BitVec 4} {size : Nat} {v : Word32} {rest : List HostOp}
    (h : s.hostQueue = .read off size :: rest ∨ s.hostQueue = .write off size v :: rest) :
    ∃ k, hostStep s = checkedAccess off size k := by
  obtain h | h := h
  · exact ⟨_, hostStep_of_cons h⟩
  · exact ⟨_, hostStep_of_cons h⟩

/-- A defined read appends the register's value to the host's reads. -/
theorem hostStep_read {s : State} {off : BitVec 4} {rest : List HostOp} (hal : off.extractLsb' 0 2 = 0)
    (h : s.hostQueue = .read off 4 :: rest) :
    hostStep s = .next { s with hostReads := s.hostReads ++ [readReg off s], hostQueue := rest } :=
  (hostStep_of_cons h).trans (checkedAccess_aligned hal _)

/-- A defined write that does not reach OPW0 only stores. -/
theorem hostStep_write {s : State} {off : BitVec 4} {v : Word32} {rest : List HostOp} (hal : off.extractLsb' 0 2 = 0)
    (hoff : off.extractLsb' 2 2 ≠ 0) (h : s.hostQueue = .write off 4 v :: rest) :
    hostStep s = .next (writeReg off v { s with hostQueue := rest }) := by
  rw [hostStep_of_cons h, hostOp, checkedAccess_aligned hal, if_neg hoff]

/-- Settles O24: each of the four offsets is aligned and selects its register. -/
theorem hostReadsGiveTheRegister : Obligations.HostReadsGiveTheRegister := fun _ _ =>
  ⟨hostStep_read rfl, hostStep_read rfl, hostStep_read rfl, hostStep_read rfl⟩

/-- Settles O25: each of the three offsets is aligned, is not OPW0's, and stores into its register or nowhere. -/
theorem hostWritesOnlyStore : Obligations.HostWritesOnlyStore := fun _ _ _ =>
  ⟨hostStep_write rfl (by decide), hostStep_write rfl (by decide), hostStep_write rfl (by decide)⟩

/-- Settles O26: both kinds of access pass the check, and it refuses the width before the alignment. -/
theorem undefinedAccessesRefused : Obligations.UndefinedAccessesRefused := by
  intro s off size v rest h
  obtain ⟨k, e⟩ := hostStep_access h
  rw [e]
  refine ⟨fun hsize => checkedAccess_other_width off hsize k, ?_⟩
  rintro rfl hal
  exact checkedAccess_misaligned hal k

end Sys2Proof.Machine
end

section
/-! SUPPORT. Decode and encode agree (30_encoding R50 to R54, R58, R63): what each operation code decodes to, which descriptors decode to
nothing, what the assembler writes, and the micro-program of an accepted descriptor. -/

namespace Sys2Proof

/-! ### Descriptors (30_encoding R51, R54) -/

/-- The decoder on OPW0 = {COLOR, 0x000, OPC}: it chooses by OPC alone. -/
theorem decodeDescriptor_packOpw0 (color : Half) (opc : BitVec 4) (a b : Word32) :
    decodeDescriptor ⟨packOpw0 color opc, a, b⟩
      = if opc = 0x1 then some .init
        else if opc = 0x2 then
          some (.setwin (a.extractLsb' 0 16) (a.extractLsb' 16 16) (b.extractLsb' 0 16) (b.extractLsb' 16 16))
        else if opc = 0x3 then
          some (.fill (a.extractLsb' 0 16) (a.extractLsb' 16 16) (b.extractLsb' 0 16) (b.extractLsb' 16 16) color)
        else if opc = 0x4 then some (.fillscr color)
        else none := by
  simp [decodeDescriptor, Descriptor.rsvd, Descriptor.opc, Descriptor.color, Descriptor.x0, Descriptor.y0, Descriptor.x1,
    Descriptor.y1]

theorem decodeDescriptor_init (color : Half) (a b : Word32) :
    decodeDescriptor ⟨packOpw0 color 0x1, a, b⟩ = some .init := decodeDescriptor_packOpw0 color 0x1 a b

theorem decodeDescriptor_setwin (color : Half) (a b : Word32) :
    decodeDescriptor ⟨packOpw0 color 0x2, a, b⟩
      = some (.setwin (a.extractLsb' 0 16) (a.extractLsb' 16 16) (b.extractLsb' 0 16) (b.extractLsb' 16 16)) :=
  decodeDescriptor_packOpw0 color 0x2 a b

theorem decodeDescriptor_fill (color : Half) (a b : Word32) :
    decodeDescriptor ⟨packOpw0 color 0x3, a, b⟩
      = some (.fill (a.extractLsb' 0 16) (a.extractLsb' 16 16) (b.extractLsb' 0 16) (b.extractLsb' 16 16) color) :=
  decodeDescriptor_packOpw0 color 0x3 a b

theorem decodeDescriptor_fillscr (color : Half) (a b : Word32) :
    decodeDescriptor ⟨packOpw0 color 0x4, a, b⟩ = some (.fillscr color) := decodeDescriptor_packOpw0 color 0x4 a b

/-- What a descriptor that decodes to a FILL holds: RSVD = 0, OPC = 3, and the operands in its fields. -/
theorem decodeDescriptor_eq_fill {d : Descriptor} {x0 y0 x1 y1 color : Half}
    (h : decodeDescriptor d = some (.fill x0 y0 x1 y1 color)) :
    d.rsvd = 0 ∧ d.opc = 0x3 ∧ d.x0 = x0 ∧ d.y0 = y0 ∧ d.x1 = x1 ∧ d.y1 = y1 ∧ d.color = color := by
  unfold decodeDescriptor at h
  split_ifs at h with hr _ _ ho
  all_goals simp only [Option.some.injEq, Instr.fill.injEq, reduceCtorEq] at h
  exact ⟨not_not.mp hr, ho, h⟩

/-! ### Wire command bytes (30_encoding R63) -/

/-- Where the five opcodes differ, each of them decodes to its own command. -/
theorem decodeWire_opcodes {c : Config} (h : c.wireOpsDistinct = true) :
    decodeWire c c.opCaset = some .caset ∧ decodeWire c c.opRaset = some .raset ∧ decodeWire c c.opRamwr = some .ramwr
    ∧ decodeWire c c.opSlpout = some .slpout ∧ decodeWire c c.opDispon = some .dispon := by
  simp only [Config.wireOpsDistinct, decide_eq_true_eq, List.nodup_cons, List.mem_cons, not_or] at h
  simp [decodeWire, h, Ne.symm]

theorem decode_encode_of_isHost {i : Instr} (h : i.isHost = true) (c : Config) : decode c (encode c i) = some i := by
  cases i with
  | init => exact decodeDescriptor_init 0 0 0
  | setwin x0 y0 x1 y1 => simp only [encode, decode, decodeDescriptor_setwin, packPair_lo, packPair_hi]
  | fill x0 y0 x1 y1 color => simp only [encode, decode, decodeDescriptor_fill, packPair_lo, packPair_hi]
  | fillscr color => exact decodeDescriptor_fillscr color 0 0
  | caset | raset | ramwr | slpout | dispon => cases h

theorem decode_encode_of_wire {i : Instr} (h : i.isHost = false) {c : Config} (hc : c.wireOpsDistinct = true) :
    decode c (encode c i) = some i := by
  obtain ⟨hcaset, hraset, hramwr, hslpout, hdispon⟩ := decodeWire_opcodes hc
  cases i with
  | init | setwin | fill | fillscr => cases h
  | caset => exact hcaset
  | raset => exact hraset
  | ramwr => exact hramwr
  | slpout => exact hslpout
  | dispon => exact hdispon

/-- Settles O9: a host operation by the fields of its words, a wire command by its opcode. -/
theorem decodeOfEncode : Obligations.DecodeOfEncode := by
  intro c i hwf
  cases hhost : i.isHost
  · exact decode_encode_of_wire hhost (by simpa [Instr.wellFormed, hhost] using hwf)
  · exact decode_encode_of_isHost hhost c

/-- Settles O10: the decoder's checks of RSVD and OPC, in order. -/
theorem reservedDescriptorsExactly : Obligations.ReservedDescriptorsExactly := by
  intro d
  change decodeDescriptor d = none ↔ d.rsvd ≠ 0 ∨ (d.opc ≠ 1 ∧ d.opc ≠ 2 ∧ d.opc ≠ 3 ∧ d.opc ≠ 4)
  unfold decodeDescriptor
  split_ifs with hrsvd h1 h2 h3 h4
  · exact iff_of_true rfl (.inl hrsvd)
  · simp [not_not.mp hrsvd, h1]
  · simp [not_not.mp hrsvd, h2]
  · simp [not_not.mp hrsvd, h3]
  · simp [not_not.mp hrsvd, h4]
  · exact iff_of_true rfl (.inr ⟨h1, h2, h3, h4⟩)

/-- Settles O11: the decoder by OPC, and for FILL the words put together again from their fields. -/
theorem ignoredFieldsDoNotMatter : Obligations.IgnoredFieldsDoNotMatter := by
  refine ⟨fun color a b => ⟨decodeDescriptor_init color a b, decodeDescriptor_setwin color a b,
    decodeDescriptor_fill color a b, decodeDescriptor_fillscr color a b⟩, ?_⟩
  intro c d x0 y0 x1 y1 color h
  obtain ⟨hrsvd, hopc, rfl, rfl, rfl, rfl, rfl⟩ := decodeDescriptor_eq_fill h
  have h0 : packOpw0 d.color d.opc = d.opw0 := packOpw0_fields hrsvd
  have h1 : packPair d.y0 d.x0 = d.opw1 := packPair_halves d.opw1
  have h2 : packPair d.y1 d.x1 = d.opw2 := packPair_halves d.opw2
  rw [encode, ← hopc, h0, h1, h2]

end Sys2Proof

namespace Sys2Proof.Machine

/-! ### The assembler (30_encoding R58, R59) -/

theorem asmOperand_of_lt {n : Nat} (h : n < 65536) : asmOperand n = some (BitVec.ofNat 16 n) := if_pos h

theorem asmOperand_of_le {n : Nat} (h : 65536 ≤ n) : asmOperand n = none := if_neg (Nat.not_lt.mpr h)

/-- SETWIN with its operands in range writes the words its operation encodes to. -/
theorem asmSetwin_of_lt {x0 y0 x1 y1 : Nat} (hx0 : x0 < 65536) (hy0 : y0 < 65536) (hx1 : x1 < 65536) (hy1 : y1 < 65536) :
    asmSetwin x0 y0 x1 y1 = some (descriptorWrites ⟨packOpw0 0 0x2, packPair (BitVec.ofNat 16 y0) (BitVec.ofNat 16 x0),
      packPair (BitVec.ofNat 16 y1) (BitVec.ofNat 16 x1)⟩) := by
  simp only [asmSetwin, asmOperand_of_lt, hx0, hy0, hx1, hy1]

/-- FILL with its operands in range writes the words its operation encodes to. -/
theorem asmFill_of_lt {x0 y0 x1 y1 color : Nat} (hx0 : x0 < 65536) (hy0 : y0 < 65536) (hx1 : x1 < 65536) (hy1 : y1 < 65536)
    (hcolor : color < 65536) :
    asmFill x0 y0 x1 y1 color = some (descriptorWrites ⟨packOpw0 (BitVec.ofNat 16 color) 0x3,
      packPair (BitVec.ofNat 16 y0) (BitVec.ofNat 16 x0), packPair (BitVec.ofNat 16 y1) (BitVec.ofNat 16 x1)⟩) := by
  simp only [asmFill, asmOperand_of_lt, hx0, hy0, hx1, hy1, hcolor]

theorem asmSetwin_eq_none {x0 y0 x1 y1 : Nat} (h : 65536 ≤ x0 ∨ 65536 ≤ y0 ∨ 65536 ≤ x1 ∨ 65536 ≤ y1) :
    asmSetwin x0 y0 x1 y1 = none := by
  unfold asmSetwin
  obtain h | h | h | h := h <;> simp [asmOperand_of_le h]

theorem asmFill_eq_none {x0 y0 x1 y1 color : Nat}
    (h : 65536 ≤ x0 ∨ 65536 ≤ y0 ∨ 65536 ≤ x1 ∨ 65536 ≤ y1 ∨ 65536 ≤ color) : asmFill x0 y0 x1 y1 color = none := by
  unfold asmFill
  obtain h | h | h | h | h := h <;> simp [asmOperand_of_le h]

theorem asmFillscr_of_lt {color : Nat} (h : color < 65536) :
    asmFillscr color = some [.write 0 4 (packOpw0 (BitVec.ofNat 16 color) 0x4)] := by
  rw [asmFillscr, asmOperand_of_lt h]
  rfl

theorem asmFillscr_eq_none {color : Nat} (h : 65536 ≤ color) : asmFillscr color = none := by
  rw [asmFillscr, asmOperand_of_le h]

theorem assemble_fill_decodes {x0 y0 x1 y1 color : Nat} (hx0 : x0 < 65536) (hy0 : y0 < 65536) (hx1 : x1 < 65536)
    (hy1 : y1 < 65536) (hcolor : color < 65536) :
    ∃ a b v : Word32, assemble (.fill x0 y0 x1 y1 color) = some [.write 4 4 a, .write 8 4 b, .write 0 4 v]
      ∧ decodeDescriptor ⟨v, a, b⟩ = some (.fill (BitVec.ofNat 16 x0) (BitVec.ofNat 16 y0)
          (BitVec.ofNat 16 x1) (BitVec.ofNat 16 y1) (BitVec.ofNat 16 color)) :=
  ⟨_, _, _, asmFill_of_lt hx0 hy0 hx1 hy1 hcolor, by simp only [decodeDescriptor_fill, packPair_lo, packPair_hi]⟩

theorem assemble_setwin_decodes {x0 y0 x1 y1 : Nat} (hx0 : x0 < 65536) (hy0 : y0 < 65536) (hx1 : x1 < 65536)
    (hy1 : y1 < 65536) :
    ∃ a b v : Word32, assemble (.setwin x0 y0 x1 y1) = some [.write 4 4 a, .write 8 4 b, .write 0 4 v]
      ∧ decodeDescriptor ⟨v, a, b⟩ = some (.setwin (BitVec.ofNat 16 x0) (BitVec.ofNat 16 y0)
          (BitVec.ofNat 16 x1) (BitVec.ofNat 16 y1)) :=
  ⟨_, _, _, asmSetwin_of_lt hx0 hy0 hx1 hy1, by simp only [decodeDescriptor_setwin, packPair_lo, packPair_hi]⟩

theorem assemble_fillscr_decodes {color : Nat} (h : color < 65536) :
    ∃ v : Word32, assemble (.fillscr color) = some [.write 0 4 v]
      ∧ ∀ a b : Word32, decodeDescriptor ⟨v, a, b⟩ = some (.fillscr (BitVec.ofNat 16 color)) :=
  ⟨_, asmFillscr_of_lt h, decodeDescriptor_fillscr _⟩

/-- Settles O12: operands in range assemble to words that decode to them, an operand out of range is refused; CLEAR is FILLSCR 0, and
FILLPX is a FILL whose end x+1 or y+1 leaves the range at 65535. -/
theorem assembledDescriptorsDecode : Obligations.AssembledDescriptorsDecode := by
  intro x0 y0 x1 y1 color
  refine ⟨fun hx0 hy0 hx1 hy1 hcolor => ⟨assemble_fill_decodes hx0 hy0 hx1 hy1 hcolor,
    assemble_setwin_decodes hx0 hy0 hx1 hy1⟩, ?init, assemble_fillscr_decodes, ?clear, rfl, ?coords, ?colors, rfl, ?px, ?py⟩
  case init => exact ⟨_, rfl, decodeDescriptor_init _⟩
  case clear => exact assemble_fillscr_decodes (color := 0) (by decide)
  case coords => exact fun h => ⟨asmSetwin_eq_none h, asmFill_eq_none (by omega)⟩
  case colors => exact fun h => ⟨asmFill_eq_none (by omega), asmFillscr_eq_none h⟩
  case px => exact asmFill_eq_none (by omega)
  case py => exact asmFill_eq_none (by omega)

/-- Settles O8: the words R66 and R63 write out, the reserved ones decided. -/
theorem specWordsDecode : Obligations.SpecWordsDecode :=
  ⟨decode_init_word, decode_setwin_word, decode_fill_word, decode_fillscr_word, by decide, by decide, decode_caset_byte,
    decode_slpout_byte⟩

/-! ### Acceptance (30_encoding R52, R55) -/

/-- The operation a descriptor decodes to submits Expand of the descriptor; all but INIT need an Active panel. -/
theorem exec_of_decodeDescriptor {d : Descriptor} {i : Instr} (h : decodeDescriptor d = some i) (s : State) :
    exec i s = .next (submitOp (decide (i ≠ .init)) (expand s.cfg d) s) := by
  have hhost := decodeDescriptor_isHost h
  unfold expand
  rw [h]
  cases i with
  | init | setwin | fill | fillscr => rfl
  | caset | raset | ramwr | slpout | dispon => cases hhost

theorem submitOp_accepts {s : State} {raster : Bool} (hb : s.busy = false) (h : raster = false ∨ s.pstate = .active)
    (prog : List MicroOp) : submitOp raster prog s = accept prog s := by
  obtain rfl | hactive := h
  · exact submitOp_init hb prog
  · cases raster
    · exact submitOp_init hb prog
    · exact submitOp_raster_active hb hactive prog

/-- Settles O18: what the operation submits is accepted, and acceptance latches the descriptor. -/
theorem acceptedProgramIsExpandOfLatch : Obligations.AcceptedProgramIsExpandOfLatch := by
  intro s i hb hd hready
  have haccept : submitOp (decide (i ≠ .init)) (expand s.cfg (descriptor s)) s = accept (expand s.cfg (descriptor s)) s :=
    submitOp_accepts hb (hready.imp_left fun hi => by simp [hi]) _
  refine ⟨_, (exec_of_decodeDescriptor hd s).trans (congrArg _ haccept), accept_latch _ s, accept_mprog _ s, ?_⟩
  simp [descriptor]

end Sys2Proof.Machine
end

section
/-! SUPPORT. The step that executes an instruction: the write of OPW0 that submits a descriptor, the BYTE that sends a wire command
(30_encoding R52, R56, R62), and the host's poll of WAITIDLE (R59). -/

namespace Sys2Proof.Machine

/-! ### The host: submission and WAITIDLE -/

/-- The submission of a descriptor that decodes executes its operation. -/
theorem submit_of_decodeDescriptor {s : State} {i : Instr} (h : decodeDescriptor (descriptor s) = some i) :
    submit s = exec i s := by
  simp only [submit, h]

/-- The write of OPW0 stores and submits, in one step (20_memory R35). -/
theorem hostStep_write_opw0 {s : State} {v : Word32} {rest : List HostOp} (h : s.hostQueue = .write 0 4 v :: rest) :
    hostStep s = submit { s with opw0 := v, hostQueue := rest } :=
  (hostStep_of_cons h).trans (checkedAccess_aligned rfl _)

/-- Settles O5: the host's step is the submission, and that executes the operation. -/
theorem stepRunsSubmittedOperation : Obligations.StepRunsSubmittedOperation := by
  intro s v rest i hv hpick hq hd
  calc step s = hostStep (advance s) := by rw [step_of_valid hv, hpick]; rfl
    _ = submit { advance s with opw0 := v, hostQueue := rest } := hostStep_write_opw0 hq
    _ = exec i { advance s with opw0 := v, hostQueue := rest } := submit_of_decodeDescriptor hd

/-- Settles O27: bit 3 of STATUS is BUSY. -/
theorem waitIdlePollsBusy : Obligations.WaitIdlePollsBusy := by
  intro s rest hq
  obtain ⟨hbusy, _⟩ := statusWord_singleBits s
  rw [hostStep_of_cons hq, hostOp, hbusy, hq]

/-! ### The sequencer: wire commands and completion -/

/-- A BYTE about to start with CS and DC LOW is named by its byte (30_encoding R62). -/
theorem wireCommand_of_byte {s : State} {b : Byte} (hp : s.seqPhase = .ready) (ho : currentOp s = some (.byte b))
    (hcs : s.lCs = LOW) (hdc : s.lDc = LOW) : wireCommand s = decodeWire s.cfg b := by
  simp only [wireCommand, hp, ho, hcs, hdc, and_self, if_true]

/-- Settles O6: the sequencer's step names the byte and executes it. -/
theorem stepRunsWireCommand : Obligations.StepRunsWireCommand := by
  intro s b i hv hpick hp ho hcs hdc hd
  have hname : wireCommand (advance s) = some i := (wireCommand_of_byte (s := advance s) hp ho hcs hdc).trans hd
  calc step s = sequencerStep (advance s) := by rw [step_of_valid hv, hpick]; rfl
    _ = exec i (advance s) := by simp only [sequencerStep, hname]

/-- Settles O30: the two cases of a completion. -/
theorem microOperationCompletes : Obligations.MicroOperationCompletes := fun _ => ⟨microDone_of_lt, microDone_of_le⟩

/-- With SBUSY = 0 the first poll of a BYTE's PRE wait is satisfied, and the byte is issued (40_transport R78). -/
theorem sendWireByte_of_empty {s : State} (h : s.bc = 0) (op : Byte) :
    sendWireByte op s = .next { s with
      sr := op, bc := 8, seqPhase := .waitPost, waitCnt := 0, trace := s.trace ++ [.byte op s.lCs s.lDc] } := by
  simp [sendWireByte, beginByte, pollPre, pollWait, sbusy, h, issueByte, emit]

/-- Settles O38: each wire command sends the byte of its own opcode. -/
theorem wireCommandsIssueTheirOpcode : Obligations.WireCommandsIssueTheirOpcode := fun s h =>
  ⟨sendWireByte_of_empty h s.cfg.opCaset, sendWireByte_of_empty h s.cfg.opRaset, sendWireByte_of_empty h s.cfg.opRamwr,
    sendWireByte_of_empty h s.cfg.opSlpout, sendWireByte_of_empty h s.cfg.opDispon⟩

end Sys2Proof.Machine
end

section
/-! SUPPORT. The running micro-program's events are emitted in order, whatever the host does (30_encoding R56; 20_memory R37, R39, R44,
R46): the trace with the events still owed is the same after every move that leaves no timeout recorded. -/

namespace Sys2Proof.Machine

/-- The trace as it will stand when the running operation has emitted what it still owes. -/
def owedTrace (s : State) : List Event := s.trace ++ pendingEvents s

/-! ### The moves of the sequencer -/

/-- After a completion the operation owes the events of the micro-operations after the current one. -/
theorem pendingEvents_microDone (s : State) :
    pendingEvents (microDone s) = microEvents s.lCs s.lDc (s.mprog.drop (s.seqPc + 1)) := by
  obtain ⟨hlen, e⟩ | ⟨_, e⟩ := microDone_cases s
  · rw [e, List.drop_eq_nil_of_le hlen]
    rfl
  · rw [e]
    rfl

/-- In its POST wait a BYTE has emitted its own event, so the same is owed. -/
theorem pendingEvents_issueByte (b : Byte) (s : State) :
    pendingEvents (issueByte b s) = microEvents s.lCs s.lDc (s.mprog.drop (s.seqPc + 1)) := rfl

/-- While the current micro-operation has still to emit, its events and the later ones are owed. -/
theorem pendingOps_of_currentOp {s : State} {op : MicroOp} (hp : s.seqPhase = .ready ∨ s.seqPhase = .waitPre)
    (ho : currentOp s = some op) : pendingOps s = op :: s.mprog.drop (s.seqPc + 1) := by
  rw [← drop_of_currentOp ho]
  obtain hp | hp := hp <;> simp only [pendingOps, hp]

theorem Finishing.owedTrace_microDone {s u : State} (hu : Finishing s u) (hto : u.timeout = false) :
    owedTrace (microDone u) = owedTrace s := by
  rw [owedTrace, pendingEvents_microDone, microDone_trace, owedTrace, pendingEvents]
  cases hu with
  | line l v hp ho =>
    rw [pendingOps_of_currentOp (.inl hp) ho]
    cases l <;> simp [driveLine, microEvents]
  | state p hp ho => simp [pendingOps_of_currentOp (.inl hp) ho, microEvents]
  | delay us hp ho => simp [pendingOps_of_currentOp (.inl hp) ho, microEvents, beginDelay]
  | delayOn us hp _ => simp only [pendingOps, hp]
  | sent b hp _ _ => simp only [pendingOps, hp]
  | abandoned => exact absurd hto (by simp)

theorem InByte.keeps_owedTrace {s t : State} (ht : InByte s t) (hto : t.timeout = false) : owedTrace t = owedTrace s := by
  cases ht with
  | issue b hp ho _ =>
    rw [owedTrace, pendingEvents_issueByte, owedTrace, pendingEvents, pendingOps_of_currentOp hp ho]
    simp [microEvents]
  | issueOver => exact absurd hto (by simp)
  | firstPoll b hp _ _ _ => simp only [owedTrace, pendingEvents, pendingOps, hp]
  | poll => rfl

/-! ### The moves of the host -/

/-- While an operation runs the host owes and emits nothing, unless it resets the block. -/
theorem HostMove.keeps_owedTrace {s t : State} (ht : HostMove s t) (hb : s.busy = true) (hn : noResetNext s = true) :
    owedTrace t = owedTrace s := by
  cases ht with
  | access => rfl
  | refused f => cases f <;> rfl
  | accepted prog w0 queue hidle _ _ => exact absurd hidle (by simp [hb])
  | reset queue hq => exact absurd (noResetNext_reset hq) (by simp [hn])

/-- The host has nothing to do but what `passiveOp` names. -/
def PassiveHost (s : State) : Prop := s.hostQueue.all passiveOp = true

theorem PassiveHost.of_cons {s : State} (h : PassiveHost s) {op : HostOp} {rest : List HostOp}
    (hq : s.hostQueue = op :: rest) : passiveOp op = true ∧ rest.all passiveOp = true := by
  rwa [PassiveHost, hq, List.all_cons, Bool.and_eq_true] at h

theorem PassiveHost.noResetNext {s : State} (h : PassiveHost s) : noResetNext s = true := by
  unfold Sys2Proof.noResetNext
  rw [decide_eq_true_eq]
  intro hreset
  obtain ⟨rest, hq⟩ := List.head?_eq_some_iff.mp hreset
  exact absurd (h.of_cons hq).1 (by decide)

/-- A host that neither submits nor resets only accesses the registers, and goes on doing so. -/
theorem PassiveHost.of_hostStep {s t : State} (h : PassiveHost s) (hstep : hostStep s = .next t) :
    PassiveHost t ∧ owedTrace t = owedTrace s := by
  obtain ⟨_, rfl⟩ | ⟨_, rest, hq, rfl⟩ | ⟨off, v, rest, hq, _, rfl⟩ | ⟨off, v, rest, hq, hoff, _⟩ | ⟨rest, _, hq, _⟩
    | ⟨rest, hq, _⟩ := hostStep_next hstep
  · exact ⟨h, rfl⟩
  · exact ⟨(h.of_cons hq).2, rfl⟩
  · obtain ⟨w0, w1, w2, e⟩ := writeReg_eq_withHost off v { s with hostQueue := rest }
    rw [e]
    exact ⟨(h.of_cons hq).2, rfl⟩
  · exact absurd (h.of_cons hq).1 (by simp [passiveOp, hoff])
  · obtain rfl := Host.Outcome.next.inj ((waitIdlePollsBusy s rest hq).symm.trans hstep)
    refine ⟨?_, rfl⟩
    cases s.busy
    · exact (h.of_cons hq).2
    · exact hq ▸ h
  · exact absurd (h.of_cons hq).1 (by decide)

/-! ### The step and the run -/

/-- Whichever agent moves, the owed trace is kept where the host keeps it. -/
theorem agentStep_owedTrace {a : Option Agent} {s t : State} (h : agentStep a s = .next t) (hto : t.timeout = false)
    (hhost : a = some .host → hostStep s = .next t → owedTrace t = owedTrace s) : owedTrace t = owedTrace s := by
  obtain ⟨_, rfl⟩ | ⟨ha, hstep⟩ | ⟨_, hseq⟩ | ⟨_, rfl⟩ := agentStep_next h
  · rfl
  · exact hhost ha hstep
  · obtain ⟨u, hu, rfl⟩ | ht := seqMicro_move hseq
    · exact hu.owedTrace_microDone (by simpa using hto)
    · exact ht.keeps_owedTrace hto
  · rfl

theorem PassiveHost.of_agentStep {a : Option Agent} {s t : State} (h : PassiveHost s) (hstep : agentStep a s = .next t) :
    PassiveHost t := by
  obtain ⟨_, rfl⟩ | ⟨_, hhost⟩ | ⟨_, hseq⟩ | ⟨_, rfl⟩ := agentStep_next hstep
  · exact h
  · exact (h.of_hostStep hhost).1
  · obtain ⟨u, hu, rfl⟩ | ht := seqMicro_move hseq
    · rwa [PassiveHost, microDone_hostQueue, hu.hostQueue]
    · rwa [PassiveHost, ht.hostQueue]
  · exact h

/-- A run with a passive host, by induction on its length: a timeout recorded on the way would still be recorded at the end. -/
theorem PassiveHost.run_owedTrace {k : Nat} {s t : State} (h : PassiveHost s) (hrun : Sys2Proof.core.run k s = .next t)
    (hto : t.timeout = false) : s.timeout = false ∧ owedTrace t = owedTrace s := by
  induction k generalizing s with
  | zero =>
    obtain rfl : s = t := Host.Outcome.next.inj hrun
    exact ⟨hto, rfl⟩
  | succ k ih =>
    obtain ⟨u, hstep, hrest⟩ := run_succ_next hrun
    have hagent := agentStep_of_step hstep
    have hadv : PassiveHost (advance s) := h
    obtain ⟨huto, hu⟩ := ih (hadv.of_agentStep hagent) hrest
    obtain ⟨_, _, _, hsticky, _⟩ := stickyBitsStay _ _ _ hagent fun _ => hadv.noResetNext
    have hkeep : owedTrace u = owedTrace (advance s) :=
      agentStep_owedTrace hagent huto fun _ hhost => (hadv.of_hostStep hhost).2
    exact ⟨Bool.eq_false_iff.mpr fun hs => absurd (hsticky hs) (by simp [huto]), hu.trans hkeep⟩

/-- Settles O59: by the moves while an operation runs, and by induction for a run with a passive host. -/
theorem runEmitsTheProgramInOrder : Obligations.RunEmitsTheProgramInOrder := by
  refine ⟨fun a s t hstep hb hn hto => ?_, fun k s t hq hrun hto => ?_⟩
  · exact agentStep_owedTrace hstep hto fun ha hhost => (hostStep_move hhost).keeps_owedTrace hb (hn ha)
  · exact (PassiveHost.run_owedTrace hq hrun hto).2

end Sys2Proof.Machine
end

section
/-! SUPPORT. The sequencer's step by its phase, and the micro-operations that finish in the step that starts them: LINE and DELAY
(40_transport R74, R75, R81). -/

namespace Sys2Proof.Machine

/-! ### The sequencer's step by its phase -/

/-- At READY the current micro-operation starts, whatever name its byte has (log 15). -/
theorem sequencerStep_ready {s : State} {op : MicroOp} (hp : s.seqPhase = .ready) (ho : currentOp s = some op) :
    sequencerStep s = .next (seqStart (Config.waitAbandoned s.tick) op s) := by
  simp only [sequencerStep_eq_seqMicro, seqMicro, hp, ho]

theorem sequencerStep_waitPre {s : State} {b : Byte} (hp : s.seqPhase = .waitPre) (ho : currentOp s = some (.byte b)) :
    sequencerStep s = .next (pollPre (Config.waitAbandoned s.tick) b s) := by
  simp only [sequencerStep_eq_seqMicro, seqMicro, hp, ho]

theorem sequencerStep_waitPost {s : State} {b : Byte} (hp : s.seqPhase = .waitPost) (ho : currentOp s = some (.byte b)) :
    sequencerStep s = .next (pollPost (Config.waitAbandoned s.tick) s) := by
  simp only [sequencerStep_eq_seqMicro, seqMicro, hp, ho]

/-! ### LINE and DELAY -/

/-- LINE's effect on every level at once: each line but l keeps its own. -/
theorem driveLine_eq (l : Line) (v : Level) (s : State) :
    driveLine l v s = { s with
      lRst := if l = .rst then v else s.lRst
      lCs := if l = .cs then v else s.lCs
      lDc := if l = .dc then v else s.lDc
      lBl := if l = .bl then v else s.lBl
      trace := s.trace ++ [.line l v] } := by
  cases l <;> rfl

theorem lineLevel_driveLine (l : Line) (v : Level) (s : State) : lineLevel (driveLine l v s) l = v := by
  cases l <;> rfl

/-- A completion leaves every line where it is. -/
theorem lineLevel_microDone (s : State) (l : Line) : lineLevel (microDone s) l = lineLevel s l := by
  cases l <;> simp [lineLevel]

/-- Settles O31: the step is the completion of `driveLine`, and a completion leaves the lines. -/
theorem lineDrivesOneLine : Obligations.LineDrivesOneLine := by
  intro s l v hp ho
  have hstep : sequencerStep s = .next (microDone (driveLine l v s)) := sequencerStep_ready hp ho
  refine ⟨by rw [hstep, driveLine_eq], fun t ht => ?_⟩
  obtain rfl := Host.Outcome.next.inj (hstep.symm.trans ht)
  rw [pin, lineLevel_microDone, lineLevel_driveLine, microDone_cfg, driveLine_cfg]

/-- A completion ends the phase, so it does not matter which one it was. -/
theorem microDone_seqPhase (p : SeqPhase) (s : State) : microDone { s with seqPhase := p } = microDone s := rfl

/-- Settles O33: the DELAY begun and all its cycles counted. -/
theorem delayCompletesInOneStep : Obligations.DelayCompletesInOneStep := by
  intro s us hp ho
  rw [sequencerStep_ready hp ho]
  exact congrArg _ (microDone_seqPhase .delaying { s with trace := s.trace ++ [.delay us], dlyCnt := 0 })

end Sys2Proof.Machine
end

section
/-! SUPPORT. BYTE and its two bounded waits (40_transport R76, R78, R79): a wait that finds SBUSY = 1 is abandoned or goes on, and
an abandoned PRE wait issues over the byte in flight. -/

namespace Sys2Proof.Machine

/-- With SBUSY = 0 the PRE wait is satisfied and the byte issued (40_transport R68, R78). -/
theorem pollPre_of_empty {s : State} (h : s.bc = 0) (d : Bool) (b : Byte) : pollPre d b s = issueByte b s := by
  simp [pollPre, pollWait, sbusy, h]

/-- With SBUSY = 0 the POST wait is satisfied. -/
theorem pollPost_of_empty {s : State} (h : s.bc = 0) (d : Bool) : pollPost d s = microDone s := by
  simp [pollPost, pollWait, sbusy, h]

/-- An issue after an abandoned PRE wait: the timeout recorded whole, then the byte over the one in flight (log 7). -/
theorem issueByte_recordTimeout (b : Byte) (s : State) :
    issueByte b (recordTimeout .pre s) = { s with
      timeout := true
      timeoutCount := if s.timeoutCount = 0xFFFF then 0xFFFF else s.timeoutCount + 1
      lastCause := .timeout
      sr := b, bc := 8, seqPhase := .waitPost, waitCnt := 0
      trace := s.trace ++ [.timeout .pre, .byte b s.lCs s.lDc] } := by
  simp [issueByte, recordTimeout, emit, countTimeout]

/-- A poll of the PRE wait that finds SBUSY = 1. -/
theorem pollPre_of_shifting {s : State} (h : s.bc ≠ 0) (d : Bool) (b : Byte) :
    pollPre d b s =
      if s.waitCnt = s.cfg.busyWaitLimit ∨ d = true then issueByte b (recordTimeout .pre s) else countPoll s := by
  obtain ⟨h0, _⟩ | ⟨_, hd, e⟩ | ⟨_, hw, hd, e⟩ := pollPre_cases d b s
  · exact absurd h0 h
  · rw [e, if_pos hd]
  · rw [e, if_neg (by simp [hw, hd])]

/-- A poll of the POST wait that finds SBUSY = 1. -/
theorem pollPost_of_shifting {s : State} (h : s.bc ≠ 0) (d : Bool) :
    pollPost d s =
      if s.waitCnt = s.cfg.busyWaitLimit ∨ d = true then microDone (recordTimeout .post s) else countPoll s := by
  obtain ⟨h0, _⟩ | ⟨_, hd, e⟩ | ⟨_, hw, hd, e⟩ := pollPost_cases d s
  · exact absurd h0 h
  · rw [e, if_pos hd]
  · rw [e, if_neg (by simp [hw, hd])]

/-- A BYTE begun with SBUSY = 1: one poll counted, or the wait abandoned at once by the draw or a limit of 0. -/
theorem beginByte_of_shifting {s : State} (h : s.bc ≠ 0) (d : Bool) (b : Byte) :
    beginByte d b s =
      if s.cfg.busyWaitLimit = 0 ∨ d = true then issueByte b (recordTimeout .pre s)
      else { s with seqPhase := .waitPre, waitCnt := 1 } := by
  rw [beginByte, pollPre_of_shifting (s := { s with seqPhase := .waitPre, waitCnt := 0 }) h]
  simp only [eq_comm (a := 0)]
  rfl

/-- Settles O35: a BYTE at READY is begun as `sendWireByte` begins it, whatever its byte. -/
theorem byteIssues : Obligations.ByteIssues := by
  intro s b hp ho
  rw [sequencerStep_ready hp ho, seqStart]
  exact ⟨fun hbc => sendWireByte_of_empty hbc b,
    fun hbc => by rw [beginByte_of_shifting hbc, issueByte_recordTimeout]⟩

/-- Settles O36: the POST wait by SBUSY; an abandoned one completes all the same. -/
theorem postWaitPolls : Obligations.PostWaitPolls := by
  intro s b hp ho
  rw [sequencerStep_waitPost hp ho]
  exact ⟨fun hbc => by rw [pollPost_of_empty hbc], fun hbc => congrArg _ (pollPost_of_shifting hbc _)⟩

/-- Settles O37: the PRE wait by SBUSY; an abandoned one issues all the same. -/
theorem preWaitPolls : Obligations.PreWaitPolls := by
  intro s b hp ho
  rw [sequencerStep_waitPre hp ho]
  refine ⟨fun hbc => by rw [pollPre_of_empty hbc]; rfl, fun hbc => ?_⟩
  rw [pollPre_of_shifting hbc, issueByte_recordTimeout]
  rfl

/-- A wire command begins the byte it is encoded as (log 15). -/
theorem exec_of_encode_wire {s : State} {i : Instr} {b : Byte} (h : encode s.cfg i = .wire b) :
    exec i s = .next (beginByte (Config.waitAbandoned s.tick) b s) := by
  cases i with
  | init | setwin | fill | fillscr => cases h
  | caset | raset | ramwr | slpout | dispon =>
    cases h
    rfl

/-- A valid configuration lets a wait poll at least once (00_scope R5). -/
theorem busyWaitLimit_ne_zero {c : Config} (h : c.valid = true) : c.busyWaitLimit ≠ 0 := by
  simp only [Config.valid, Config.limitValid, Bool.and_eq_true, decide_eq_true_eq] at h
  omega

/-- Settles O39: a wire command is its byte begun, and the limit is not 0. -/
theorem wireCommandsWaitForTheShifter : Obligations.WireCommandsWaitForTheShifter := by
  intro s i b hv hbc _ henc
  rw [exec_of_encode_wire henc, beginByte_of_shifting hbc, issueByte_recordTimeout]
  simp [busyWaitLimit_ne_zero hv]

end Sys2Proof.Machine
end

section
/-! SUPPORT. The shifter (40_transport R68, R69) and the divider of its clock (R67). -/

namespace Sys2Proof.Machine

/-- One bit step written out. -/
theorem bitStep_eq (s : State) :
    bitStep s = { s with
      sck := HIGH, mosi := s.sr.getLsbD 7, sr := s.sr <<< 1, bc := s.bc - 1
      busLog := s.busLog ++ [(LOW, s.sr.getLsbD 7), (HIGH, s.sr.getLsbD 7)] } := by
  simp [bitStep, driveBus]

/-- Settles O40: the shifter's step is one bit step. -/
theorem bitStepShiftsOneBit : Obligations.BitStepShiftsOneBit := fun s _ => congrArg _ (bitStep_eq s)

/-- The levels driven for the first n bits of a byte, most significant bit first. -/
def drivenLevels (sr : Byte) (n : Nat) : List (Level × Level) :=
  (List.range n).flatMap fun k => [(LOW, sr.getLsbD (7 - k)), (HIGH, sr.getLsbD (7 - k))]

theorem drivenLevels_succ (sr : Byte) (n : Nat) :
    drivenLevels sr (n + 1) = drivenLevels sr n ++ [(LOW, sr.getLsbD (7 - n)), (HIGH, sr.getLsbD (7 - n))] := by
  simp [drivenLevels, List.range_succ]

/-- After n bit steps bit 7 - n is next (40_transport R69). -/
theorem getLsbD_seven_shiftLeft (sr : Byte) {n : Nat} (h : n < 8) : (sr <<< n).getLsbD 7 = sr.getLsbD (7 - n) := by
  have hn : ¬ 7 < n := Nat.not_lt.mpr (Nat.le_of_lt_succ h)
  rw [BitVec.getLsbD_shiftLeft, decide_eq_false hn]
  rfl

/-- n + 1 bit steps of a byte, by induction on n. -/
theorem bitStep_iterate_succ (s : State) {n : Nat} (h : n < 8) :
    bitStep^[n + 1] s = { s with
      sck := HIGH, mosi := s.sr.getLsbD (7 - n), sr := s.sr <<< (n + 1), bc := s.bc - (n + 1)
      busLog := s.busLog ++ drivenLevels s.sr (n + 1) } := by
  induction n with
  | zero => exact bitStep_eq s
  | succ n ih =>
    rw [Function.iterate_succ_apply', ih (by omega), bitStep_eq, drivenLevels_succ s.sr (n + 1)]
    simp only [getLsbD_seven_shiftLeft s.sr h, ← BitVec.shiftLeft_add, Nat.sub_sub, List.append_assoc]

/-- Settles O41: eight bit steps, the last of them at bit 0. -/
theorem byteShiftsOutMsbFirst : Obligations.ByteShiftsOutMsbFirst := by
  intro s hbc
  rw [bitStep_iterate_succ s (n := 7) (by decide), hbc, BitVec.shiftLeft_eq_zero (le_refl 8)]
  rfl

/-- Settles O42: r is between the powers of two its logarithm names. -/
theorem dividerIsRoundedDown : Obligations.DividerIsRoundedDown := by
  intro c
  refine ⟨fun h => if_pos h, fun h => ⟨Nat.log2 (clockRatio c), ?_, Nat.lt_log2_self, if_neg (Nat.not_lt.mpr h)⟩⟩
  exact Nat.log2_self_le (by unfold clockRatio; omega)

end Sys2Proof.Machine
end

section
/-! SUPPORT. Where a timeout is recorded (40_transport R76, R79; 60_exceptions R118, R119): each move leaves TIMEOUT, LAST_CAUSE,
TIMEOUT_COUNT and the Timeout events to `recordTimeout`. -/

namespace Sys2Proof.Machine

/-- Nothing of a timeout shows from s to t: TIMEOUT and TIMEOUT_COUNT stay and no Timeout event is appended. -/
structure NoTimeoutAdded (s t : State) : Prop where
  timeout : t.timeout = s.timeout
  count : t.timeoutCount = s.timeoutCount
  events : ∀ (l : List Event) (p : WaitTag), t.trace = s.trace ++ l → Event.timeout p ∉ l

/-- From s to t the wait of a BYTE that found SBUSY = 1 was abandoned, and the timeout recorded whole. -/
structure TimeoutAdded (s t : State) : Prop where
  shifting : s.bc ≠ 0
  inByte : ∃ b : Byte, currentOp s = some (.byte b)
  timeout : t.timeout = true
  cause : t.lastCause = .timeout
  count : t.timeoutCount = countTimeout s.timeoutCount
  event : ∃ (l : List Event) (p : WaitTag), t.trace = s.trace ++ l ∧ Event.timeout p ∈ l

/-- The events a move appends decide whether one of them is a Timeout event. -/
theorem NoTimeoutAdded.of_trace {s t : State} (l : List Event) (hl : ∀ p, Event.timeout p ∉ l)
    (htrace : t.trace = s.trace ++ l) (hto : t.timeout = s.timeout) (hcount : t.timeoutCount = s.timeoutCount) :
    NoTimeoutAdded s t where
  timeout := hto
  count := hcount
  events l' p h := by
    obtain rfl : l = l' := List.append_cancel_left (htrace.symm.trans h)
    exact hl p

/-! ### The moves -/

theorem Finishing.timeout_cases {s u : State} (h : Finishing s u) :
    NoTimeoutAdded s (microDone u) ∨ TimeoutAdded s (microDone u) := by
  cases h with
  | line l v _ _ => exact .inl (.of_trace [.line l v] (by simp) (by simp) (by simp) (by simp))
  | delay us _ _ =>
    exact .inl (.of_trace [.delay us] (by simp) (by simp [beginDelay]) (by simp [beginDelay]) (by simp [beginDelay]))
  | state | delayOn | sent => exact .inl (.of_trace [] (by simp) (by simp) (by simp) (by simp))
  | abandoned b _ ho hbc =>
    exact .inr ⟨hbc, ⟨b, ho⟩, by simp, by simp, by simp, [.timeout .post], .post, by simp, by simp⟩

theorem InByte.timeout_cases {s t : State} (h : InByte s t) : NoTimeoutAdded s t ∨ TimeoutAdded s t := by
  cases h with
  | issue b _ _ _ => exact .inl (.of_trace [.byte b s.lCs s.lDc] (by simp) rfl rfl rfl)
  | firstPoll | poll => exact .inl (.of_trace [] (by simp) (by simp) rfl rfl)
  | issueOver b _ ho hbc =>
    exact .inr ⟨hbc, ⟨b, ho⟩, rfl, rfl, rfl, [.timeout .pre, .byte b s.lCs s.lDc], .pre, by simp, by simp⟩

/-- The host records no timeout. -/
theorem HostMove.noTimeoutAdded {s t : State} (h : HostMove s t) (hn : noResetNext s = true) : NoTimeoutAdded s t := by
  cases h with
  | access | refused | accepted =>
    exact .of_trace [] (by simp) (by simp [withHost]) (by simp [withHost]) (by simp [withHost])
  | reset queue hq => exact absurd (noResetNext_reset hq) (by simp [hn])

/-- Whichever agent moves without resetting the block, a timeout is added by the sequencer or not at all. -/
theorem agentStep_timeout_cases {a : Option Agent} {s t : State} (h : agentStep a s = .next t)
    (hn : a = some .host → noResetNext s = true) : NoTimeoutAdded s t ∨ (a = some .sequencer ∧ TimeoutAdded s t) := by
  obtain ⟨_, rfl⟩ | ⟨ha, hhost⟩ | ⟨ha, ⟨u, hu, rfl⟩ | ht⟩ | ⟨_, rfl⟩ := agentStep_move h
  · exact .inl (.of_trace [] (by simp) (by simp) rfl rfl)
  · exact .inl (hhost.noTimeoutAdded (hn ha))
  · exact hu.timeout_cases.imp_right fun hadd => ⟨ha, hadd⟩
  · exact ht.timeout_cases.imp_right fun hadd => ⟨ha, hadd⟩
  · exact .inl (.of_trace [] (by simp) (by simp) rfl rfl)

/-! ### Block reset -/

/-- A block reset that comes next is the host's step. -/
theorem hostStep_of_resetNext {s : State} (h : noResetNext s = false) :
    ∃ queue, hostStep s = .next (blockReset { s with hostQueue := queue }) := by
  obtain ⟨rest, hq⟩ := List.head?_eq_some_iff.mp (by simpa [noResetNext] using h)
  exact ⟨rest, hostStep_of_cons hq⟩

/-- After block reset no timeout is recorded, and the trace is empty (70_reset R127). -/
theorem blockReset_shows_no_timeout (s : State) :
    (blockReset s).timeout = false ∧ (blockReset s).timeoutCount = 0 ∧ (blockReset s).trace = [] := ⟨rfl, rfl, rfl⟩

/-- Settles O57: block reset shows no timeout, and any other step adds one whole or not at all. -/
theorem timeoutsOnlyWhileShifting : Obligations.TimeoutsOnlyWhileShifting := by
  intro a s t h
  by_cases hreset : a = some .host ∧ noResetNext s = false
  · obtain ⟨rfl, hn⟩ := hreset
    obtain ⟨queue, hstep⟩ := hostStep_of_resetNext hn
    obtain rfl := Host.Outcome.next.inj (hstep.symm.trans h)
    obtain ⟨hto, hcount, htrace⟩ := blockReset_shows_no_timeout { s with hostQueue := queue }
    refine ⟨fun hadded => ?_, fun _ _ => hcount⟩
    obtain ⟨_, hrise⟩ | ⟨l, p, htr, hp⟩ | ⟨_, hno⟩ := hadded
    · exact absurd hrise (by simp [hto])
    · obtain ⟨_, rfl⟩ := List.append_eq_nil_iff.mp (htr.symm.trans htrace)
      exact absurd hp (by simp)
    · exact absurd (hno rfl) (by simp [hn])
  · refine ⟨fun hadded => ?_, fun ha hn => absurd ⟨ha, hn⟩ hreset⟩
    obtain hno | ⟨ha, hadd⟩ := agentStep_timeout_cases h (fun ha => by simpa [ha] using hreset)
    · obtain ⟨hs, ht⟩ | ⟨l, p, htr, hp⟩ | ⟨hcount, _⟩ := hadded
      · exact absurd (hs.symm.trans (hno.timeout.symm.trans ht)) (by decide)
      · exact absurd hp (hno.events l p htr)
      · exact absurd hno.count hcount
    · exact ⟨ha, hadd.shifting, hadd.inByte, hadd.timeout, hadd.cause, hadd.count, hadd.event⟩

end Sys2Proof.Machine
end

section
/-! SUPPORT. The timed reading (40_transport R69, R77, R81): a cycle by BC, and the DELAY that counts its cycles. -/

namespace Sys2Proof.Machine

/-! ### The cycle -/

theorem cycles_eq_iterate (n : Nat) (t : Timed) : cycles n t = cycle^[n] t := by
  induction n generalizing t with
  | zero => rfl
  | succ n ih => exact ih (cycle t)

/-- With the shifter empty a cycle is the sequencer's part alone. -/
theorem cycle_of_empty {t : Timed} (h : t.core.bc = 0) : cycle t = ⟨cycleSequencer (advance t.core), 0⟩ := if_pos (.inl h)

/-- While BUSY = 1 the sequencer's part of a cycle is one timed step. -/
theorem cycleSequencer_of_next {s t : State} (hb : s.busy = true) (h : timedMicro s = .next t) : cycleSequencer s = t := by
  simp only [cycleSequencer, hb, if_true, h]

/-- A cycle of the running sequencer with the shifter empty. -/
theorem cycle_of_empty_of_next {s u : State} {sub : Nat} (hbc : s.bc = 0) (hb : s.busy = true)
    (h : timedMicro (advance s) = .next u) : cycle ⟨s, sub⟩ = ⟨u, 0⟩ := by
  rw [cycle_of_empty hbc, cycleSequencer_of_next (s := advance s) hb h]

/-! ### DELAY -/

theorem timedMicro_of_ready_delay {s : State} {us : Nat} (hp : s.seqPhase = .ready) (ho : currentOp s = some (.delay us)) :
    timedMicro s = .next (checkDelay (beginDelay us s)) := by
  simp only [timedMicro, hp, ho]

theorem timedMicro_of_delaying {s : State} {us : Nat} (hp : s.seqPhase = .delaying) (ho : currentOp s = some (.delay us)) :
    timedMicro s = .next (countDelay s) := by
  simp only [timedMicro, hp, ho]

/-- `delayCycles` is the least number of cycles that is not less than us · F_SYS / 1 000 000 (40_transport R81). -/
theorem delayCycles_isLeast (c : Config) (us : Nat) : IsLeast {n | us * c.fSys ≤ n * 1000000} (delayCycles c us) := by
  refine ⟨?_, fun m (hm : us * c.fSys ≤ m * 1000000) => ?_⟩
  · show us * c.fSys ≤ delayCycles c us * 1000000
    unfold delayCycles
    omega
  · unfold delayCycles
    omega

/-- The DELAY that s is about to start, k cycles after the one that loads DLY_CNT. -/
def delayAfter (us k : Nat) (s : State) : State :=
  { s with
    trace := s.trace ++ [.delay us], seqPhase := .delaying, dlyCnt := delayCycles s.cfg us - k, tick := s.tick + (k + 1) }

/-- While the count is not 0 the DELAY goes on. -/
theorem checkDelay_delayAfter_of_lt {us k : Nat} {s : State} (h : k < delayCycles s.cfg us) :
    checkDelay (delayAfter us k s) = delayAfter us k s := if_neg (Nat.sub_ne_zero_of_lt h)

/-- At count 0 it completes. -/
theorem checkDelay_delayAfter_of_le {us k : Nat} {s : State} (h : delayCycles s.cfg us ≤ k) :
    checkDelay (delayAfter us k s)
      = microDone { s with trace := s.trace ++ [.delay us], dlyCnt := 0, tick := s.tick + (k + 1) } := by
  have h0 : delayCycles s.cfg us - k = 0 := Nat.sub_eq_zero_of_le h
  rw [delayAfter, h0]
  rfl

/-- The cycle that loads DLY_CNT and k further ones, by induction on k. -/
theorem cycles_delay {s : State} {us : Nat} (hb : s.busy = true) (hbc : s.bc = 0) (hp : s.seqPhase = .ready)
    (ho : currentOp s = some (.delay us)) {k : Nat} (hk : k ≤ delayCycles s.cfg us) :
    cycles (k + 1) ⟨s, 0⟩ = ⟨checkDelay (delayAfter us k s), 0⟩ := by
  rw [cycles_eq_iterate]
  induction k with
  | zero =>
    have hload : timedMicro (advance s) = .next (checkDelay (delayAfter us 0 s)) :=
      timedMicro_of_ready_delay (s := advance s) hp ho
    exact cycle_of_empty_of_next hbc hb hload
  | succ k ih =>
    have hcount : timedMicro (advance (delayAfter us k s)) = .next (checkDelay (delayAfter us (k + 1) s)) :=
      timedMicro_of_delaying (s := advance (delayAfter us k s)) rfl ho
    rw [Function.iterate_succ_apply', ih (by omega), checkDelay_delayAfter_of_lt (by omega)]
    exact cycle_of_empty_of_next (s := delayAfter us k s) hbc hb hcount

/-- Settles O34: before the last count the DELAY goes on, at the last it completes. -/
theorem timedDelayLastsItsCycles : Obligations.TimedDelayLastsItsCycles := by
  intro s us hb hbc hp ho
  obtain ⟨hge, hleast⟩ := delayCycles_isLeast s.cfg us
  refine ⟨delayCycles s.cfg us, hge, fun m hm => hleast hm, ?_, fun k hk => ?_⟩
  · rw [cycles_delay hb hbc hp ho (le_refl _), checkDelay_delayAfter_of_le (le_refl _)]
  · rw [cycles_delay hb hbc hp ho hk.le, checkDelay_delayAfter_of_lt hk]
    rfl

end Sys2Proof.Machine
end

section
/-! SUPPORT. With BUSY_WAIT_LIMIT at least 8 · DIV the timed reading never times out (40_transport R70, R77): with the shifter empty
the sequencer's part of a cycle is a move of the machine or a count of a DELAY, and while it shifts a poll of the POST wait. -/

namespace Sys2Proof.Machine

/-! ### The sequencer's part of a cycle -/

/-- A cycle of a DELAY that leaves cycles to count takes s to t. -/
structure Delaying (us : Nat) (s t : State) : Prop where
  current : currentOp s = some (.delay us)
  left : 0 < t.dlyCnt
  effect : t = { s with trace := t.trace, seqPhase := .delaying, dlyCnt := t.dlyCnt }

/-- A DELAY checked at count 0 completes as in the untimed reading; at any other count it goes on. -/
theorem checkDelay_cases (s : State) :
    (s.dlyCnt = 0 ∧ checkDelay s = microDone { s with dlyCnt := 0 }) ∨ (0 < s.dlyCnt ∧ checkDelay s = s) := by
  obtain h | h := Nat.eq_zero_or_pos s.dlyCnt
  · exact .inl ⟨h, by rw [← h]; exact if_pos h⟩
  · exact .inr ⟨h, if_neg h.ne'⟩

/-- A timed step of the sequencer is a move of the machine, or leaves a DELAY counting. -/
theorem timedMicro_move {s t : State} (h : timedMicro s = .next t) :
    (∃ u, Finishing s u ∧ t = microDone u) ∨ InByte s t ∨ ∃ us, Delaying us s t := by
  unfold timedMicro at h
  split at h
  · next us hp ho =>
    obtain rfl := Host.Outcome.next.inj h
    obtain ⟨_, e⟩ | ⟨hleft, e⟩ := checkDelay_cases (beginDelay us s) <;> rw [e]
    · exact .inl ⟨_, .delay us hp ho, rfl⟩
    · exact .inr (.inr ⟨us, ho, hleft, rfl⟩)
  · next us hp ho =>
    obtain rfl := Host.Outcome.next.inj h
    obtain ⟨_, e⟩ | ⟨hleft, e⟩ := checkDelay_cases { s with dlyCnt := s.dlyCnt - 1 } <;> rw [countDelay, e]
    · exact .inl ⟨_, .delayOn us hp ho, rfl⟩
    · exact .inr (.inr ⟨us, ho, hleft, by rw [← hp]⟩)
  · exact (seqMicro_move h).imp_right .inl

/-- A sequencer whose phase fits its micro-operation never stops in the timed reading either. -/
theorem timedMicro_of_fits {s : State} (h : phaseFits s.seqPhase (currentOp s) = true) : ∃ t, timedMicro s = .next t := by
  unfold timedMicro
  split
  · exact ⟨_, rfl⟩
  · exact ⟨_, rfl⟩
  · exact seqMicro_of_fits h

/-- A POST wait polled in the timed reading: no draw abandons it. -/
theorem timedMicro_of_waitPost {s : State} {b : Byte} (hp : s.seqPhase = .waitPost) (ho : currentOp s = some (.byte b)) :
    timedMicro s = .next (pollPost false s) := by
  simp only [timedMicro, seqMicro, hp, ho]

/-- The micro-operation of a POST wait is a BYTE (10_state R23). -/
theorem currentOp_of_waitPost {s : State} (h : phaseFits s.seqPhase (currentOp s) = true) (hp : s.seqPhase = .waitPost) :
    ∃ b, currentOp s = some (.byte b) := by
  rw [hp] at h
  unfold phaseFits at h
  split at h <;> simp_all

theorem Finishing.bc {s u : State} (h : Finishing s u) : u.bc = s.bc := by
  cases h <;> simp [beginDelay]

/-! ### The cycle while the byte shifts -/

/-- Where no event was appended no byte was issued. -/
theorem issuedSince_of_trace_eq {s u : State} (h : u.trace = s.trace) : issuedSince s u = false := by
  simp [issuedSince, h]

/-- While a byte shifts and none is issued a cycle is one of the DIV cycles of a bit step, the last of which shifts. -/
theorem cycle_of_shifting {t : Timed} {u : State} (hbc : t.core.bc ≠ 0) (hu : cycleSequencer (advance t.core) = u)
    (htr : u.trace = t.core.trace) :
    cycle t = if t.sub + 1 < divider t.core.cfg then ⟨u, t.sub + 1⟩ else ⟨bitStep u, 0⟩ := by
  rw [cycle, hu]
  exact if_neg (by simp [hbc, issuedSince_of_trace_eq htr])

theorem divider_pos (c : Config) : 0 < divider c := by
  unfold divider
  split_ifs
  · decide
  · exact lt_min (Nat.two_pow_pos _) (Nat.two_pow_pos _)

end Sys2Proof.Machine

namespace Sys2Proof

open Sys2Proof.Machine

/-! ### The invariant and the polls along a cycle -/

theorem Inv.of_delaying {s t : State} {us : Nat} (h : Inv s) (hb : s.busy = true) (ht : Delaying us s t) : Inv t := by
  obtain ⟨ho, hleft, e⟩ := ht
  rw [e]
  exact
    { cfgValid := h.cfgValid, bcRange := h.bcRange, waitRange := h.waitRange, blHeld := h.blHeld, sckIdle := h.sckIdle
      restSeq := fun hidle => absurd hidle (by simp [hb])
      runSeq := fun _ => by
        show phaseFits .delaying (currentOp s) = true
        rw [ho]
        rfl
      delayLeft := fun _ => hleft
      progBuilt := h.progBuilt
      panelEnds := h.panelEnds }

/-- What a cycle from t to t' must keep for no wait to time out. -/
structure KeptByCycle (t t' : Timed) : Prop where
  inv : Inv t'.core
  quiet : TimedQuiet t'
  timeout : t'.core.timeout = t.core.timeout
  count : t'.core.timeoutCount = t.core.timeoutCount

/-- With the shifter empty there is nothing to keep in step. -/
theorem timedQuiet_of_empty {t : Timed} (h : t.core.bc = 0) : TimedQuiet t := fun hbc => absurd h hbc

/-- A BYTE just issued has made no poll, and has 8 · DIV cycles to shift. -/
theorem timedQuiet_issueByte {s : State} (hb : s.busy = true) (b : Byte) : TimedQuiet ⟨issueByte b s, 0⟩ :=
  fun _ => ⟨hb, rfl, divider_pos s.cfg, by simp [issueByte, byteCycles]⟩

/-- After a bit step the whole cycles of the bits left are still to come. -/
theorem timedQuiet_bitStep {u : State} (hb : u.busy = true) (hp : u.seqPhase = .waitPost)
    (hsum : u.waitCnt + (u.bc - 1) * divider u.cfg = byteCycles u.cfg) : TimedQuiet ⟨bitStep u, 0⟩ := by
  simp [TimedQuiet, hb, hp, divider_pos, hsum]

/-- The polls made are fewer than the cycles a byte takes (40_transport R70, R77). -/
theorem TimedQuiet.waitCnt_lt {t : Timed} (h : TimedQuiet t) (hbc : t.core.bc ≠ 0) :
    t.core.waitCnt < byteCycles t.core.cfg := by
  obtain ⟨_, _, hsub, hsum⟩ := h hbc
  have hbits : divider t.core.cfg ≤ t.core.bc * divider t.core.cfg := Nat.le_mul_of_pos_left _ (Nat.pos_of_ne_zero hbc)
  omega

/-- With the shifter empty no wait is abandoned, and a byte can only be issued. -/
theorem keptByCycle_of_empty {t : Timed} (h : Inv t.core) (hbc : t.core.bc = 0) : KeptByCycle t (cycle t) := by
  have hadv : Inv (advance t.core) := h.advance
  rw [cycle_of_empty hbc]
  cases hb : t.core.busy with
  | false =>
    have hu : cycleSequencer (advance t.core) = advance t.core := by simp [cycleSequencer, hb]
    rw [hu]
    exact ⟨hadv, timedQuiet_of_empty hbc, rfl, rfl⟩
  | true =>
    obtain ⟨u, hu⟩ := timedMicro_of_fits (hadv.runSeq hb)
    rw [cycleSequencer_of_next (s := advance t.core) hb hu]
    obtain ⟨v, hv, rfl⟩ | hbyte | ⟨us, hdelay⟩ := timedMicro_move hu
    · obtain hno | hadd := hv.timeout_cases
      · exact ⟨hadv.microDone_of_finishing hb hv, timedQuiet_of_empty (by simp [hv.bc, hbc]), hno.timeout, hno.count⟩
      · exact absurd hbc hadd.shifting
    · have hinv := hadv.of_inByte hb hbyte
      cases hbyte with
      | issue b _ _ _ => exact ⟨hinv, timedQuiet_issueByte hb b, rfl, rfl⟩
      | issueOver _ _ _ hne | firstPoll _ _ _ hne _ | poll _ _ _ hne _ => exact absurd hbc hne
    · refine ⟨hadv.of_delaying hb hdelay, timedQuiet_of_empty ?_, ?_, ?_⟩ <;> rw [hdelay.effect]
      · exact hbc
      · rfl
      · rfl

/-- A poll of the POST wait while the byte shifts: polls and shifted cycles stay in step, below the limit. -/
theorem keptByCycle_of_shifting {t : Timed} (h : Inv t.core) (hq : TimedQuiet t)
    (hlim : byteCycles t.core.cfg ≤ t.core.cfg.busyWaitLimit) (hbc : t.core.bc ≠ 0) : KeptByCycle t (cycle t) := by
  have hadv : Inv (advance t.core) := h.advance
  obtain ⟨hb, hp, hsub, hsum⟩ := hq hbc
  obtain ⟨b, ho⟩ : ∃ b, currentOp (advance t.core) = some (.byte b) := currentOp_of_waitPost (hadv.runSeq hb) hp
  have hwait : t.core.waitCnt ≠ t.core.cfg.busyWaitLimit := ((hq.waitCnt_lt hbc).trans_le hlim).ne
  have hpoll : timedMicro (advance t.core) = .next (countPoll (advance t.core)) := by
    rw [timedMicro_of_waitPost (s := advance t.core) hp ho, pollPost_of_shifting (s := advance t.core) hbc]
    exact congrArg _ (if_neg (by simp [hwait]))
  have hinv : Inv (countPoll (advance t.core)) := hadv.of_inByte hb (.poll b (.inr hp) ho hbc hwait)
  rw [cycle_of_shifting hbc (cycleSequencer_of_next (s := advance t.core) hb hpoll) rfl]
  obtain ⟨k, hk⟩ := Nat.exists_eq_succ_of_ne_zero hbc
  rw [hk, Nat.succ_mul] at hsum
  split_ifs with hmore
  · refine ⟨hinv, fun _ => ⟨hb, hp, hmore, ?_⟩, rfl, rfl⟩
    show t.core.waitCnt + 1 + (t.core.bc * divider t.core.cfg - (t.sub + 1)) = byteCycles t.core.cfg
    rw [hk, Nat.succ_mul]
    omega
  · refine ⟨hinv.bitStep, timedQuiet_bitStep hb hp ?_, by simp [countPoll], by simp [countPoll]⟩
    show t.core.waitCnt + 1 + (t.core.bc - 1) * divider t.core.cfg = byteCycles t.core.cfg
    rw [hk, Nat.succ_sub_one]
    omega

/-- Settles O43, by SBUSY at the start of the cycle. -/
theorem timedReadingNeverTimesOut : Obligations.TimedReadingNeverTimesOut := by
  intro t h hq hlim
  obtain ⟨hinv, hquiet, hto, hcount⟩ : KeptByCycle t (cycle t) := by
    by_cases hbc : t.core.bc = 0
    · exact keptByCycle_of_empty h hbc
    · exact keptByCycle_of_shifting h hq hlim hbc
  exact ⟨hinv, hquiet, hto, hcount⟩

end Sys2Proof
end

section
/-! SUPPORT. Every micro-program keeps the frame discipline (41_framer R85, R87): what each building block does with the place in a
frame, begun where a new frame may begin. -/

namespace Sys2Proof.Machine

/-- Where a new frame may begin: no frame is open, or one has been left open after its command byte (41_framer R85). -/
def FrameMayBegin (st : FrameAt) : Prop := st = .closed ∨ st = .commandSent

section
variable {st : FrameAt} (h : FrameMayBegin st)
include h

/-! ### What may stand there: the reset line, waits and panel states -/

theorem frameRun_rst_cons (v : Level) (ops : List MicroOp) : frameRun st (.line .rst v :: ops) = frameRun st ops := by
  obtain rfl | rfl := h <;> rfl

theorem frameRun_state_cons (p : PanelState) (ops : List MicroOp) : frameRun st (.state p :: ops) = frameRun st ops := by
  obtain rfl | rfl := h <;> rfl

theorem frameRun_waitMs (ms : Nat) : frameRun st (waitMs ms) = some st := by
  unfold waitMs
  split_ifs
  · obtain rfl | rfl := h <;> rfl
  · rfl

theorem frameRun_resetPulse (c : Config) : frameRun st (resetPulse c) = some st := by
  simp [resetPulse, frameRun_append, frameRun_rst_cons h, frameRun_waitMs h]

/-! ### A command -/

/-- sendCommand leaves its frame open (41_framer R82, R85). -/
theorem frameRun_sendCommand (op : Byte) : frameRun st (sendCommand op) = some .commandSent := by
  obtain rfl | rfl := h <;> rfl

omit h in
/-- Data bytes stay in their frame. -/
theorem frameRun_writeBytes (ps : List Byte) : frameRun .dataMode (writeBytes ps) = some .dataMode := by
  induction ps with
  | nil => rfl
  | cons b ps ih => exact ih

omit h in
theorem scwp_eq (op : Byte) (ps : List Byte) :
    scwp op ps = sendCommand op ++ [.line .dc HIGH] ++ writeBytes ps ++ [.line .cs HIGH] := rfl

/-- SCWP closes its frame (41_framer R84, R85). -/
theorem frameRun_scwp (op : Byte) (ps : List Byte) : frameRun st (scwp op ps) = some .closed := by
  simp [scwp_eq, frameRun_append, frameRun_sendCommand h, frameRun, frameStep, frameRun_writeBytes]

/-! ### INIT -/

theorem frameRun_replayEntry (e : InitEntry) : frameRun st (replayEntry e) = some .closed := by
  simp [replayEntry, frameRun_append, frameRun_scwp h, frameRun_waitMs (.inl rfl)]

/-- The table's replay ends where a new frame may begin: an empty table where it began, any other with its last frame closed. -/
theorem frameRun_replayTable (t : List InitEntry) : ∃ st', FrameMayBegin st' ∧ frameRun st (replayTable t) = some st' := by
  induction t generalizing st with
  | nil => exact ⟨st, h, rfl⟩
  | cons e t ih =>
    obtain ⟨st', hst', hrun⟩ := ih (.inl rfl)
    refine ⟨st', hst', ?_⟩
    rw [replayTable, List.flatMap_cons, frameRun_append, frameRun_replayEntry h]
    exact hrun

/-- The last frame of INIT, DISPON's, is closed (42_panel_init R91). -/
theorem frameRun_initProgram (c : Config) : frameRun st (initProgram c) = some .closed := by
  have hclosed : FrameMayBegin .closed := .inl rfl
  obtain ⟨st', hst', hreplay⟩ := frameRun_replayTable h c.initTable
  simp [initProgram, frameRun_append, frameRun_state_cons h, frameRun_resetPulse h, hreplay, frameRun_state_cons hst',
    frameRun_scwp hst', frameRun_waitMs hclosed, frameRun_state_cons hclosed, frameRun_scwp hclosed]

/-! ### The window and the fill -/

/-- A window that is not empty: two closed frames, then that of RAMWR, which stays open (43_raster R101). -/
theorem frameRun_windowMicroOps (c : Config) (x0 xe y0 ye : Nat) :
    frameRun st (windowMicroOps c x0 xe y0 ye) = some .commandSent := by
  obtain rfl | rfl := h <;> rfl

omit h in
/-- Pixels are data bytes of RAMWR's frame (43_raster R104). -/
theorem frameRun_solidPixels (n : Nat) (color : Half) : frameRun .dataMode (solidPixels n color) = some .dataMode := by
  induction n with
  | zero => rfl
  | succ n ih => exact ih

/-- A fill that is not empty closes the frame its window opened (43_raster R104). -/
theorem frameRun_fill (c : Config) (x0 xe y0 ye n : Nat) (color : Half) :
    frameRun st (windowMicroOps c x0 xe y0 ye ++ [.line .dc HIGH] ++ solidPixels n color ++ [.line .cs HIGH])
      = some .closed := by
  simp [frameRun_append, frameRun_windowMicroOps h, frameRun, frameStep, frameRun_solidPixels]

end

/-- Settles O47, by the closed form of each program; an empty rectangle's is the empty list (43_raster R107). -/
theorem programsKeepFrames : Obligations.ProgramsKeepFrames := by
  intro c st h
  refine ⟨frameRun_initProgram h c, fun x0 y0 x1 y1 hx hy => ⟨?_, fun color => ?_⟩,
    fun x0 y0 x1 y1 hempty => ⟨?_, fun color => ?_⟩⟩
  · rw [windowProgram_of_nonempty hx hy]
    exact frameRun_windowMicroOps h ..
  · rw [fillProgram_of_nonempty color hx hy]
    exact frameRun_fill h ..
  · rw [windowProgram_of_empty hempty]
    rfl
  · rw [fillProgram_of_empty color hempty]
    rfl

end Sys2Proof.Machine
end

section
/-! SUPPORT. INIT (42_panel_init R88 to R96): what each building block of its micro-program adds to the length, the bytes, the
delays and the events, the acceptance of INIT, and the micro-operation STATE. -/

namespace Sys2Proof.Machine

/-! ### STATE (42_panel_init R89) and the acceptance of INIT (R91) -/

/-- Settles O32: a STATE starts and completes in the one step. -/
theorem stateSetsPanelState : Obligations.StateSetsPanelState := fun _ _ hp ho => sequencerStep_ready hp ho

/-- Settles O13: INIT is never UBI, and its micro-program is never empty, so it begins to run. -/
theorem initAccepted : Obligations.InitAccepted := fun s hb =>
  congrArg Host.Outcome.next ((submitOp_init hb _).trans (accept_of_ne_nil (initProgram_ne_nil s.cfg) s))

/-! ### The delays -/

theorem waitMs_of_pos {ms : Nat} (h : 0 < ms) : waitMs ms = [.delay (1000 * ms)] := if_pos h

theorem length_waitMs (ms : Nat) : (waitMs ms).length = if 0 < ms then 1 else 0 := by
  unfold waitMs
  split_ifs <;> rfl

theorem bytesOf_waitMs (ms : Nat) : bytesOf (waitMs ms) = [] := by
  unfold waitMs
  split_ifs <;> rfl

/-- A wait left out has 0 milliseconds. -/
theorem totalDelay_waitMs (ms : Nat) : totalDelay (waitMs ms) = 1000 * ms := by
  unfold waitMs
  split_ifs with h
  · rfl
  · rw [Nat.eq_zero_of_not_pos h]
    rfl

theorem microEvents_waitMs_append (cs dc : Level) (ms : Nat) (rest : List MicroOp) :
    microEvents cs dc (waitMs ms ++ rest)
      = (if 0 < ms then [.delay (1000 * ms)] else []) ++ microEvents cs dc rest := by
  unfold waitMs
  split_ifs <;> rfl

/-- Under a valid configuration only the pre delay and an entry's delay may be 0 (42_panel_init R92, R94, R95). -/
theorem delays_pos_of_valid {c : Config} (h : c.valid = true) :
    0 < c.tRstLowMs ∧ 0 < c.tRstPostMs ∧ 0 < c.tSlpoutMs ∧ 0 < c.tDisponMs := by
  simp only [Config.valid, Config.delaysValid, Bool.and_eq_true, decide_eq_true_eq] at h
  omega

/-! ### A frame (41_framer R84) -/

theorem bytesOf_writeBytes (ps : List Byte) : bytesOf (writeBytes ps) = ps := by
  induction ps with
  | nil => rfl
  | cons b ps ih => exact congrArg (b :: ·) ih

theorem totalDelay_writeBytes (ps : List Byte) : totalDelay (writeBytes ps) = 0 := by
  induction ps with
  | nil => rfl
  | cons b ps ih => exact ih

theorem microEvents_writeBytes_append (cs dc : Level) (ps : List Byte) (rest : List MicroOp) :
    microEvents cs dc (writeBytes ps ++ rest) = ps.map (Event.byte · cs dc) ++ microEvents cs dc rest := by
  induction ps with
  | nil => rfl
  | cons b ps ih => exact congrArg (Event.byte b cs dc :: ·) ih

theorem length_scwp (op : Byte) (ps : List Byte) : (scwp op ps).length = 5 + ps.length := by
  simp only [scwp, writeBytes, List.length_append, List.length_cons, List.length_nil, List.length_map]
  omega

theorem bytesOf_scwp (op : Byte) (ps : List Byte) : bytesOf (scwp op ps) = op :: ps := by
  simp [scwp, bytesOf_append, bytesOf_writeBytes, bytesOf]

theorem totalDelay_scwp (op : Byte) (ps : List Byte) : totalDelay (scwp op ps) = 0 := by
  simp [scwp, totalDelay_append, totalDelay_writeBytes, totalDelay]

/-- A frame drives CS and DC itself before its first byte, so the levels before do not show, and it leaves both HIGH. -/
theorem microEvents_scwp_append (cs dc : Level) (op : Byte) (ps : List Byte) (rest : List MicroOp) :
    microEvents cs dc (scwp op ps ++ rest)
      = [.line .cs LOW, .line .dc LOW, .byte op LOW LOW, .line .dc HIGH] ++ ps.map (Event.byte · LOW HIGH)
        ++ [.line .cs HIGH] ++ microEvents HIGH HIGH rest := by
  simp [scwp, microEvents, microEvents_writeBytes_append]

/-! ### The table (42_panel_init R90) -/

theorem replayTable_cons (e : InitEntry) (t : List InitEntry) : replayTable (e :: t) = replayEntry e ++ replayTable t :=
  List.flatMap_cons

theorem length_replayTable (t : List InitEntry) :
    (replayTable t).length = (t.map fun e => 5 + e.params.length + if 0 < e.postDelayMs then 1 else 0).sum := by
  simp only [replayTable, List.length_flatMap, replayEntry, List.length_append, length_scwp, length_waitMs]

theorem totalDelay_replayTable (t : List InitEntry) :
    totalDelay (replayTable t) = 1000 * (t.map InitEntry.postDelayMs).sum := by
  induction t with
  | nil => rfl
  | cons e t ih =>
    rw [replayTable_cons, replayEntry, totalDelay_append, totalDelay_append, totalDelay_scwp, totalDelay_waitMs, ih,
      List.map_cons, List.sum_cons]
    omega

theorem bytesOf_replayTable (t : List InitEntry) : bytesOf (replayTable t) = t.flatMap fun e => e.opcode :: e.params := by
  induction t with
  | nil => rfl
  | cons e t ih =>
    rw [replayTable_cons, replayEntry, bytesOf_append, bytesOf_append, bytesOf_scwp, bytesOf_waitMs, ih, List.flatMap_cons,
      List.append_nil]

theorem microEvents_replayEntry_append (cs dc : Level) (e : InitEntry) (rest : List MicroOp) :
    microEvents cs dc (replayEntry e ++ rest) = entryEvents e ++ microEvents HIGH HIGH rest := by
  simp only [replayEntry, List.append_assoc, microEvents_scwp_append, microEvents_waitMs_append, entryEvents]

/-- The levels after the table depend on whether it is empty, so what follows must emit the same events at every level: in INIT
that is the sleep-out frame. -/
theorem microEvents_replayTable_append (t : List InitEntry) {rest : List MicroOp} {events : List Event}
    (h : ∀ cs dc, microEvents cs dc rest = events) (cs dc : Level) :
    microEvents cs dc (replayTable t ++ rest) = t.flatMap entryEvents ++ events := by
  induction t generalizing cs dc with
  | nil => exact h cs dc
  | cons e t ih =>
    rw [replayTable_cons, List.append_assoc, microEvents_replayEntry_append, ih, List.flatMap_cons, List.append_assoc]

/-! ### The reset pulse (42_panel_init R92) -/

theorem panelStates_resetPulse (c : Config) : panelStates (resetPulse c) = [] := by
  simp [resetPulse, panelStates_append, panelStates_waitMs, panelStates]

theorem bytesOf_resetPulse (c : Config) : bytesOf (resetPulse c) = [] := by
  simp [resetPulse, bytesOf_append, bytesOf_waitMs, bytesOf]

theorem totalDelay_resetPulse (c : Config) :
    totalDelay (resetPulse c) = 1000 * (c.tRstPreMs + c.tRstLowMs + c.tRstPostMs) := by
  simp only [resetPulse, totalDelay_append, totalDelay_waitMs, totalDelay]
  omega

theorem length_resetPulse {c : Config} (h : c.valid = true) :
    (resetPulse c).length = 5 + if 0 < c.tRstPreMs then 1 else 0 := by
  obtain ⟨hlow, hpost, _, _⟩ := delays_pos_of_valid h
  simp only [resetPulse, List.length_append, List.length_singleton, length_waitMs, if_pos hlow, if_pos hpost]
  omega

theorem microEvents_resetPulse_append {c : Config} (h : c.valid = true) (cs dc : Level) (rest : List MicroOp) :
    microEvents cs dc (resetPulse c ++ rest)
      = [.line .rst HIGH] ++ (if 0 < c.tRstPreMs then [.delay (1000 * c.tRstPreMs)] else [])
        ++ [.line .rst LOW, .delay (1000 * c.tRstLowMs), .line .rst HIGH, .delay (1000 * c.tRstPostMs)]
        ++ microEvents cs dc rest := by
  obtain ⟨hlow, hpost, _, _⟩ := delays_pos_of_valid h
  simp [resetPulse, microEvents, microEvents_waitMs_append, waitMs_of_pos hlow, waitMs_of_pos hpost]

/-! ### INIT (42_panel_init R91) -/

theorem length_initProgram {c : Config} (h : c.valid = true) :
    (initProgram c).length
      = 21 + (if 0 < c.tRstPreMs then 1 else 0)
        + (c.initTable.map fun e => 5 + e.params.length + if 0 < e.postDelayMs then 1 else 0).sum := by
  obtain ⟨_, _, hslpout, hdispon⟩ := delays_pos_of_valid h
  simp only [initProgram, List.length_append, List.length_singleton, length_resetPulse h, length_replayTable, length_scwp,
    List.length_nil, waitMs_of_pos hslpout, waitMs_of_pos hdispon]
  omega

theorem totalDelay_initProgram (c : Config) : totalDelay (initProgram c) = 1000 * initDelayMs c := by
  simp only [initProgram, totalDelay_append, totalDelay_resetPulse, totalDelay_replayTable, totalDelay_scwp, totalDelay_waitMs,
    totalDelay, initDelayMs]
  omega

theorem panelStates_initProgram (c : Config) :
    panelStates (initProgram c) = [.resetting, .configuring, .sleeping, .active] := by
  simp [initProgram, panelStates_append, panelStates_resetPulse, panelStates_replayTable, panelStates_scwp, panelStates_waitMs,
    panelStates]

/-- Settles O45: the three sums over the building blocks. -/
theorem initLengthAndStates : Obligations.InitLengthAndStates := fun c h =>
  ⟨length_initProgram h, totalDelay_initProgram c, panelStates_initProgram c⟩

/-- Settles O46: only the frames send bytes, and the table is the unlock entries and then the others. -/
theorem initSendsTheTableInOrder : Obligations.InitSendsTheTableInOrder := by
  intro c
  simp [initProgram, bytesOf_append, bytesOf_resetPulse, bytesOf_replayTable, bytesOf_scwp, bytesOf_waitMs, bytesOf,
    Config.initTable]

/-- INIT from SLEEPING on: the sleep-out frame and the display-on frame, each with its delay (42_panel_init R94, R95). -/
def wakeUp (c : Config) : List MicroOp :=
  [.state .sleeping] ++ scwp c.opSlpout [] ++ waitMs c.tSlpoutMs ++ [.state .active] ++ scwp c.opDispon [] ++ waitMs c.tDisponMs

theorem initProgram_eq (c : Config) :
    initProgram c
      = [.state .resetting] ++ (resetPulse c ++ ([.state .configuring] ++ (replayTable c.initTable ++ wakeUp c))) := by
  simp only [initProgram, wakeUp, List.append_assoc]

/-- It begins with a frame, so the levels of CS and DC before do not show. -/
theorem microEvents_wakeUp {c : Config} (h : c.valid = true) (cs dc : Level) :
    microEvents cs dc (wakeUp c)
      = commandEvents c.opSlpout ++ [.delay (1000 * c.tSlpoutMs)]
        ++ commandEvents c.opDispon ++ [.delay (1000 * c.tDisponMs)] := by
  obtain ⟨_, _, hslpout, hdispon⟩ := delays_pos_of_valid h
  simp [wakeUp, waitMs_of_pos hslpout, waitMs_of_pos hdispon, microEvents, microEvents_scwp_append, commandEvents]

/-- Settles O44: the reset pulse moves neither CS nor DC, and after the table the levels no longer show. -/
theorem initTraceShape : Obligations.InitTraceShape := by
  intro c cs dc h
  simp only [initProgram_eq, List.singleton_append, microEvents, microEvents_resetPulse_append h,
    microEvents_replayTable_append c.initTable (microEvents_wakeUp h), List.append_assoc]

end Sys2Proof.Machine
end

section
/-! SUPPORT. The raster operations (43_raster R99 to R108): their acceptance on an Active panel, the clamp as all that shows of
the ends, and the length, the bytes and the panel view of a fill. -/

namespace Sys2Proof.Machine

/-! ### Acceptance (30_encoding R52) -/

/-- A raster operation that builds a micro-program that is not empty begins to run it. -/
theorem submitOp_raster_runs {s : State} (hb : s.busy = false) (hp : s.pstate = .active) {built prog : List MicroOp}
    (hbuilt : built = prog) (hne : prog ≠ []) :
    (.next (submitOp true built s) : Out)
      = .next { s with
          latch := some (descriptor s), mprog := prog, seqPc := 0, busy := true, seqPhase := .ready } := by
  rw [hbuilt, submitOp_raster_active hb hp, accept_of_ne_nil hne]

theorem windowMicroOps_ne_nil {c : Config} {x0 xe y0 ye : Nat} : windowMicroOps c x0 xe y0 ye ≠ [] :=
  List.cons_ne_nil _ _

/-- A fill begins with its window (43_raster R104). -/
theorem fillMicroOps_ne_nil {c : Config} {x0 xe y0 ye n : Nat} {color : Half} :
    windowMicroOps c x0 xe y0 ye ++ [.line .dc HIGH] ++ solidPixels n color ++ [.line .cs HIGH] ≠ [] :=
  List.cons_ne_nil _ _

/-- Settles O14: the window in closed form is what is accepted. -/
theorem setwinAccepted : Obligations.SetwinAccepted := fun _ _ _ _ _ hb hp hx hy =>
  submitOp_raster_runs hb hp (windowProgram_of_nonempty hx hy) windowMicroOps_ne_nil

/-- Settles O15: the fill in closed form is what is accepted. -/
theorem fillAccepted : Obligations.FillAccepted := fun _ _ _ _ _ color hb hp hx hy =>
  submitOp_raster_runs hb hp (fillProgram_of_nonempty color hx hy) fillMicroOps_ne_nil

/-! ### FILLSCR (43_raster R106) -/

/-- A valid panel has at least one pixel, and its sides are 16-bit coordinates (00_scope R5). -/
theorem panel_sides_of_valid {c : Config} (h : c.valid = true) :
    (0 < c.width ∧ c.width < 2 ^ 16) ∧ 0 < c.height ∧ c.height < 2 ^ 16 := by
  simp only [Config.valid, Config.geometryValid, Bool.and_eq_true, decide_eq_true_eq] at h
  omega

/-- The fill of the whole panel needs no clamp. -/
theorem fillScreenProgram_of_valid {c : Config} (h : c.valid = true) (color : Half) :
    fillScreenProgram c color
      = windowMicroOps c 0 (c.width - 1) 0 (c.height - 1) ++ [.line .dc HIGH] ++ solidPixels (c.width * c.height) color
        ++ [.line .cs HIGH] := by
  obtain ⟨⟨hw, _⟩, hh, _⟩ := panel_sides_of_valid h
  have hx : 0 < min c.width c.width := by rwa [Nat.min_self]
  have hy : 0 < min c.height c.height := by rwa [Nat.min_self]
  rw [fillScreenProgram, fillProgram_of_nonempty color hx hy]
  simp only [Nat.min_self, Nat.sub_zero]

/-- Settles O16: the fill of the whole panel is what is accepted. -/
theorem fillscrAccepted : Obligations.FillscrAccepted := fun _ color hb hp hv =>
  submitOp_raster_runs hb hp (fillScreenProgram_of_valid hv color) fillMicroOps_ne_nil

/-- A coordinate operand holds every natural below 2 ^ 16 (30_encoding R53). -/
theorem coord_ofNat_of_lt {n : Nat} (h : n < 2 ^ 16) : coord (BitVec.ofNat 16 n) = n := Nat.mod_eq_of_lt h

/-- Settles O19: the panel's sides fit the coordinate operands, so both operations submit the one micro-program. -/
theorem fillscrIsFillOfThePanel : Obligations.FillscrIsFillOfThePanel := by
  intro s color hv
  obtain ⟨⟨_, hw⟩, _, hh⟩ := panel_sides_of_valid hv
  have hprog : fillScreenProgram s.cfg color
      = fillProgram s.cfg 0 0 (coord (BitVec.ofNat 16 s.cfg.width)) (coord (BitVec.ofNat 16 s.cfg.height)) color := by
    rw [coord_ofNat_of_lt hw, coord_ofNat_of_lt hh, fillScreenProgram]
  exact congrArg (fun prog => Host.Outcome.next (submitOp true prog s)) hprog

/-! ### The clamp (43_raster R99, R108) -/

section
variable {c : Config} {x1 y1 x1' y1' : Nat} (hx : min x1 c.width = min x1' c.width)
  (hy : min y1 c.height = min y1' c.height)
include hx hy

/-- The clamp reads an end only through its minimum with the panel's side. -/
theorem clamp_congr (x0 y0 : Nat) : clamp c x0 y0 x1 y1 = clamp c x0 y0 x1' y1' := by
  simp only [clamp, hx, hy]

theorem windowProgram_congr (x0 y0 : Nat) : windowProgram c x0 y0 x1 y1 = windowProgram c x0 y0 x1' y1' := by
  simp only [windowProgram, clamp_congr hx hy]

theorem fillProgram_congr (x0 y0 : Nat) (color : Half) :
    fillProgram c x0 y0 x1 y1 color = fillProgram c x0 y0 x1' y1' color := by
  simp only [fillProgram, clamp_congr hx hy]

end

theorem execSetwin_congr {s : State} {x1 y1 x1' y1' : Half} (hx : min x1.toNat s.cfg.width = min x1'.toNat s.cfg.width)
    (hy : min y1.toNat s.cfg.height = min y1'.toNat s.cfg.height) (x0 y0 : Half) :
    execSetwin x0 y0 x1 y1 s = execSetwin x0 y0 x1' y1' s :=
  congrArg (fun prog => Host.Outcome.next (submitOp true prog s)) (windowProgram_congr hx hy ..)

theorem execFill_congr {s : State} {x1 y1 x1' y1' : Half} (hx : min x1.toNat s.cfg.width = min x1'.toNat s.cfg.width)
    (hy : min y1.toNat s.cfg.height = min y1'.toNat s.cfg.height) (x0 y0 color : Half) :
    execFill x0 y0 x1 y1 color s = execFill x0 y0 x1' y1' color s :=
  congrArg (fun prog => Host.Outcome.next (submitOp true prog s)) (fillProgram_congr hx hy ..)

/-- Settles O20: 300 and 240 have the one clamped end at 240, and 250 is beyond it. -/
theorem clampLaws : Obligations.ClampLaws := by
  intro s x0 y0 x1 y1 x1' y1' color
  refine ⟨fun hx hy => ⟨execFill_congr hx hy .., execSetwin_congr hx hy ..⟩, fun hw hh => ⟨?_, ?_⟩⟩
  · exact execFill_congr (by rw [hw]; rfl) (by rw [hh]; rfl) ..
  · exact fillProgram_of_empty color (.inl (by omega))

/-! ### The length and the bytes of a fill (43_raster R104) -/

theorem length_windowMicroOps (c : Config) (x0 xe y0 ye : Nat) : (windowMicroOps c x0 xe y0 ye).length = 21 := rfl

theorem length_solidPixels (n : Nat) (color : Half) : (solidPixels n color).length = 2 * n := by
  simp [solidPixels, Nat.mul_comm]

theorem countBytes_append (a b : List MicroOp) : countBytes (a ++ b) = countBytes a + countBytes b := by
  simp only [countBytes, bytesOf_append, List.length_append]

/-- Three opcodes and four parameters for each of the first two (43_raster R100, R101). -/
theorem countBytes_windowMicroOps (c : Config) (x0 xe y0 ye : Nat) : countBytes (windowMicroOps c x0 xe y0 ye) = 11 := rfl

theorem countBytes_solidPixels (n : Nat) (color : Half) : countBytes (solidPixels n color) = 2 * n := by
  induction n with
  | zero => rfl
  | succ n ih =>
    rw [solidPixels_succ, Nat.mul_succ, ← ih]
    rfl

/-- Settles O48: the window, DC HIGH, two micro-operations and two bytes for each pixel, CS HIGH; the clamped rectangle lies in
the panel. -/
theorem fillLengthAndBytes : Obligations.FillLengthAndBytes := by
  intro c x0 y0 x1 y1 color hx hy
  have hlength : (fillProgram c x0 y0 x1 y1 color).length
      = 23 + 2 * ((min x1 c.width - x0) * (min y1 c.height - y0)) := by
    simp only [fillProgram_of_nonempty color hx hy, List.length_append, length_windowMicroOps, length_solidPixels,
      List.length_singleton]
    omega
  have hpixels : (min x1 c.width - x0) * (min y1 c.height - y0) ≤ c.width * c.height :=
    Nat.mul_le_mul (by omega) (by omega)
  refine ⟨hlength, ?_, ?_⟩
  · rw [hlength, Nat.mul_assoc]
    omega
  · simp only [fillProgram_of_nonempty color hx hy, countBytes_append, countBytes_windowMicroOps, countBytes_solidPixels]
    rfl

/-! ### What the panel is sent (20_memory R45) -/

/-- A window's three frames drive CS and DC themselves, so the levels before do not show; the last is left open. -/
theorem panelView_windowMicroOps_append (rst cs dc : Level) (c : Config) (x0 xe y0 ye : Nat) (rest : List MicroOp) :
    panelView rst (microEvents cs dc (windowMicroOps c x0 xe y0 ye ++ rest))
      = [.cmd c.opCaset, .data 0, .data (BitVec.ofNat 8 x0), .data 0, .data (BitVec.ofNat 8 xe),
         .cmd c.opRaset, .data 0, .data (BitVec.ofNat 8 y0), .data 0, .data (BitVec.ofNat 8 ye),
         .cmd c.opRamwr]
        ++ panelView rst (microEvents LOW LOW rest) := rfl

/-- In the open frame with DC HIGH each pixel is two data bytes (43_raster R104). -/
theorem panelView_solidPixels_append (rst : Level) (n : Nat) (color : Half) (rest : List MicroOp) :
    panelView rst (microEvents LOW HIGH (solidPixels n color ++ rest))
      = (List.replicate n [PanelItem.data (color.extractLsb' 8 8), PanelItem.data (color.extractLsb' 0 8)]).flatten
        ++ panelView rst (microEvents LOW HIGH rest) := by
  induction n with
  | zero => rfl
  | succ n ih =>
    rw [solidPixels_succ, List.replicate_succ, List.flatten_cons, List.append_assoc, ← ih]
    rfl

/-- Settles O49: the window's three frames, the pixels in the frame left open, and nothing more once CS is HIGH. -/
theorem fillPanelView : Obligations.FillPanelView := by
  intro c rst cs dc x0 y0 x1 y1 color hx hy
  simp only [fillProgram_of_nonempty color hx hy, List.append_assoc, panelView_windowMicroOps_append, List.cons_append,
    List.nil_append, microEvents, panelView, panelView_solidPixels_append, List.append_nil]

end Sys2Proof.Machine
end

section
/-! SUPPORT. The faults the block records (60_exceptions R113 to R117): a submission that is not accepted raises its one fault and
does nothing else, an empty rectangle is accepted and raises none, and nothing stops the block (R110). -/

namespace Sys2Proof.Machine

/-! ### Nothing stops the block (60_exceptions R110) -/

/-- What is no host operation is written as a wire byte (30_encoding R62, R63). -/
theorem encode_wire_of_not_isHost {i : Instr} (h : i.isHost = false) (c : Config) : ∃ b, encode c i = .wire b := by
  cases i with
  | init | setwin | fill | fillscr => cases h
  | caset | raset | ramwr | slpout | dispon => exact ⟨_, rfl⟩

/-- Settles O7: a host operation is a submission, a wire command the beginning of its byte. -/
theorem everyInstructionAnswersNext : Obligations.EveryInstructionAnswersNext := by
  intro i s
  cases hhost : i.isHost with
  | true =>
    obtain ⟨_, _, hexec, _⟩ := exec_host_cases hhost s
    exact ⟨_, hexec⟩
  | false =>
    obtain ⟨b, henc⟩ := encode_wire_of_not_isHost hhost s.cfg
    exact ⟨_, exec_of_encode_wire henc⟩

theorem submit_answers_next (s : State) : ∃ t, submit s = .next t := by
  obtain ⟨_, e⟩ | ⟨_, _, _, _, e⟩ := submit_cases s
  · exact ⟨_, e⟩
  · exact ⟨_, e⟩

/-- The check of an access may refuse it, and adds no fault (20_memory R32). -/
theorem checkedAccess_ne_fault {k : Out} {f : Fault} (h : k ≠ .fault f) (off : BitVec 4) (size : Nat) :
    checkedAccess off size k ≠ .fault f := by
  unfold checkedAccess
  split_ifs
  · nofun
  · nofun
  · exact h

theorem hostOp_ne_fault (op : HostOp) (rest : List HostOp) (s : State) (f : Fault) : hostOp op rest s ≠ .fault f := by
  cases op with
  | read off size => exact checkedAccess_ne_fault (k := .next _) nofun off size
  | write off size v =>
    apply checkedAccess_ne_fault
    split_ifs
    · obtain ⟨t, e⟩ := submit_answers_next (writeReg off v { s with hostQueue := rest })
      rw [e]
      nofun
    · nofun
  | waitIdle => nofun
  | reset => nofun

theorem hostStep_ne_fault (s : State) (f : Fault) : hostStep s ≠ .fault f := by
  unfold hostStep
  split
  · nofun
  · exact hostOp_ne_fault _ _ s f

/-- The invariant keeps the running sequencer in step (log 17). -/
theorem sequencerStep_answers_next {s : State} (h : Inv s) (hb : s.busy = true) : ∃ t, sequencerStep s = .next t := by
  rw [sequencerStep_eq_seqMicro]
  exact seqMicro_of_fits (h.runSeq hb)

/-- Settles O51: of the three agents only the sequencer could fault, and it moves only while BUSY = 1. -/
theorem invariantStatesNeverFault : Obligations.InvariantStatesNeverFault := by
  intro s f h
  rw [step_of_valid h.cfgValid]
  cases ha : pickAgent s with
  | none => nofun
  | some a =>
    obtain ⟨rfl, _⟩ | ⟨rfl, hb⟩ | ⟨rfl, _⟩ := mem_enabledAgents.mp (pickAgent_mem ha)
    · nofun
    · obtain ⟨t, ht⟩ := sequencerStep_answers_next h.advance hb
      rw [agentStep, ht]
      nofun
    · exact hostStep_ne_fault _ f

/-! ### OVERLAP (60_exceptions R116) -/

/-- Settles O21: with BUSY = 1 the submission raises OVERLAP before it looks at the descriptor. -/
theorem overlapRecorded : Obligations.OverlapRecorded := by
  refine ⟨fun s v rest hb hq => ?_, fun s i hb hhost => ?_⟩
  · exact (hostStep_write_opw0 hq).trans (submit_of_busy hb)
  · obtain ⟨raster, prog, hexec, _⟩ := exec_host_cases hhost s
    rw [hexec, submitOp_of_busy hb]
    rfl

/-! ### ILLEGAL (60_exceptions R114) -/

theorem submit_of_reserved {s : State} (hb : s.busy = false) (h : decodeDescriptor (descriptor s) = none) :
    submit s = .next (raiseFault .illegal s) := by
  simp only [submit, h, submitIllegal, hb, Bool.false_eq_true, if_false]

/-- Settles O22: the descriptor is one of the reserved ones, whatever OPW1 and OPW2 hold. -/
theorem illegalRecorded : Obligations.IllegalRecorded := by
  intro s v rest hb hq hreserved
  have hd : decodeDescriptor ⟨v, s.opw1, s.opw2⟩ = none := (reservedDescriptorsExactly _).mpr hreserved
  exact (hostStep_write_opw0 hq).trans (submit_of_reserved hb hd)

/-! ### UBI (60_exceptions R115) -/

/-- The three raster OPCs decode to an operation that is not INIT (30_encoding R51). -/
theorem decodeDescriptor_raster {d : Descriptor} (hr : d.rsvd = 0) (ho : d.opc = 2 ∨ d.opc = 3 ∨ d.opc = 4) :
    ∃ i, decodeDescriptor d = some i ∧ i ≠ .init := by
  obtain ho | ho | ho := ho <;> simp [decodeDescriptor, hr, ho]

theorem submit_of_raster_not_active {s : State} {i : Instr} (hb : s.busy = false) (hp : s.pstate ≠ .active)
    (hd : decodeDescriptor (descriptor s) = some i) (hi : i ≠ .init) : submit s = .next (raiseFault .ubi s) := by
  rw [submit_of_decodeDescriptor hd, exec_of_decodeDescriptor hd, decide_eq_true hi, submitOp_raster_not_active hb hp]

/-- Settles O23: each raster operation is a submission that needs an Active panel. -/
theorem useBeforeInitRecorded : Obligations.UseBeforeInitRecorded := by
  refine ⟨fun s v rest hb hp hq hr ho => ?_, fun s x0 y0 x1 y1 color hb hp => ?_⟩
  · obtain ⟨i, hd, hi⟩ := decodeDescriptor_raster (d := ⟨v, s.opw1, s.opw2⟩) hr ho
    exact (hostStep_write_opw0 hq).trans (submit_of_raster_not_active hb hp hd hi)
  · have hubi (prog : List MicroOp) : (.next (submitOp true prog s) : Out) = .next (raiseFault .ubi s) :=
      congrArg _ (submitOp_raster_not_active hb hp prog)
    exact ⟨hubi _, hubi _, hubi _⟩

/-! ### An empty rectangle raises no fault (60_exceptions R113) -/

/-- A raster operation that builds the empty micro-program completes as it is accepted (10_state R15). -/
theorem submitOp_raster_completes {s : State} (hb : s.busy = false) (hp : s.pstate = .active) {built : List MicroOp}
    (hbuilt : built = []) :
    (.next (submitOp true built s) : Out)
      = .next { s with latch := some (descriptor s), mprog := [], seqPc := 0, busy := false, seqPhase := .idle } := by
  rw [hbuilt, submitOp_raster_active hb hp, accept_nil]

/-- Settles O17: an empty rectangle builds the empty micro-program. -/
theorem emptyRasterCompletesAtOnce : Obligations.EmptyRasterCompletesAtOnce := fun _ _ _ _ _ color hb hp hempty =>
  ⟨submitOp_raster_completes hb hp (windowProgram_of_empty hempty),
    submitOp_raster_completes hb hp (fillProgram_of_empty color hempty)⟩

end Sys2Proof.Machine
end

section
/-! SUPPORT. Block reset (70_reset R126 to R129): the state it leaves is a fixed point of block reset, so what holds after block reset
from any state holds of it. -/

namespace Sys2Proof.Machine

/-! ### The state after reset (70_reset R127) -/

/-- A second block reset changes nothing: the configuration and the draw counter stay, and the reset state's host is silent. -/
theorem blockReset_resetAt (c : Config) (n : Nat) : blockReset (State.resetAt c n) = State.resetAt c n := rfl

/-- Between bytes MOSI is a free value (40_transport R71). -/
theorem pinMosi_of_shifter_empty {s : State} (h : s.bc = 0) : pinMosi s = Config.idleMosi s.tick :=
  if_neg fun hpart => absurd h hpart.1.ne'

/-- Settles O1: each field is its value in `State.resetAt`; the reserved bits of STATUS are 0 in every state, and with the shifter
empty MOSI is its idle draw. -/
theorem resetLeavesStatedValues : Obligations.ResetLeavesStatedValues := by
  intro c n
  have hreserved := statusWord_reservedBits (State.resetAt c n)
  have hmosi : pinMosi (State.resetAt c n) = Config.idleMosi n := pinMosi_of_shifter_empty rfl
  exact ⟨rfl, rfl, rfl, rfl, rfl, rfl, rfl, rfl, rfl, hreserved, rfl, rfl, rfl, rfl, rfl, rfl, rfl, rfl, rfl, rfl, rfl, rfl,
    rfl, rfl, rfl, rfl, fun _ => rfl, rfl, hmosi, rfl, rfl⟩

/-! ### The invariant at reset (70_reset R127, R129) -/

theorem inv_resetAt {c : Config} (hv : c.valid = true) (n : Nat) : Inv (State.resetAt c n) := by
  rw [← blockReset_resetAt]
  exact inv_blockReset hv

theorem valid_thisHardware : Config.thisHardware.valid = true := by decide

/-- Settles O2: block reset meets the invariant under every valid configuration, and this hardware's is valid. -/
theorem resetMeetsInvariant : Obligations.ResetMeetsInvariant :=
  ⟨fun _ n hv => inv_resetAt hv n, inv_resetAt valid_thisHardware 0⟩

/-! ### Block reset as the host's step (70_reset R126) -/

theorem hostStep_reset {s : State} {rest : List HostOp} (hq : s.hostQueue = .reset :: rest) :
    hostStep s = .next (blockReset { s with hostQueue := rest }) := hostStep_of_cons hq

/-- Settles O3: the host's step is block reset, whose result depends on the configuration, the draw counter and the host alone. -/
theorem blockResetStopsEverything : Obligations.BlockResetStopsEverything := fun _ _ hq => hostStep_reset hq

end Sys2Proof.Machine
end
